-- ==== Sys2Proof/Word.lean ====
section
/-! DEFINITION. Word types of the block (spec 00_scope.md R5, R6): half-words, opcode words and 64-bit words. -/

namespace Sys2Proof

/-- A 64-bit word: an address, a register value, or an `i64` operand in two's complement (R5). -/
abbrev Word := BitVec 64

/-- A fetched half-word, `u16`. -/
abbrev Half := BitVec 16

/-- An opcode word, `u32` (30_encoding.md R50). -/
abbrev Opcode := BitVec 32

/-- A byte of memory. -/
abbrev Byte := BitVec 8

end Sys2Proof
end

