-- ==== Sys2Proof/Config.lean ====
section
/-! DEFINITION. The implementation parameters of 00_scope.md R4: their types, the reference values that the
reference machine runs with, and the values that stay free. -/

namespace Sys2Proof

/-- XLEN, the active register width (10_state.md R12). -/
inductive Xlen where
  | w32
  | w64
deriving DecidableEq, Repr

namespace Config

/-- `XLEN_RESET`: 32, 64 or KEEP (R4). OPEN in the spec. -/
inductive XlenReset where
  | to (x : Xlen)
  | keep
deriving DecidableEq, Repr

/-- Reference value of `XLEN_RESET`: 64. DESIGN CHOICE, unsafe (log 19): the host operations take it as an argument. -/
def xlenReset : XlenReset := .to .w64

/-- Reference value of `TC_PAGE_SIZE`: 4096. DESIGN CHOICE, unsafe (log 19): the generic loop takes it as an argument. -/
def tcPageSize : Nat := 4096

/-- `SWITCH_MAX_BITS`, fixed to 5 by D11; it cannot be observed (41_tree_builder.md R112). -/
def switchMaxBits : Nat := 5

/-- `MAX_OPERANDS`, fixed to 5 by D9. -/
def maxOperands : Nat := 5

/-- The argument of RESET that `State.reset` stands for. DESIGN CHOICE, unsafe (log 2): the spec gives no reset vector. -/
def resetEntry : Word := 0x1000#64

/-- `ISA_FEATURES`: an opaque constant, format and content not given (45_host_operations.md R175). A free value
(log 25): nothing can be proved of it. -/
opaque isaFeatures : Nat

/-- The 32-bit quotient of DIVW by zero, of the dividend: R420 states none. A free value (log 23). -/
opaque divwByZero : BitVec 32 → BitVec 32

/-- The 32-bit quotient of DIVUW by zero, of the dividend: R421 states none. A free value (log 23). -/
opaque divuwByZero : BitVec 32 → BitVec 32

/-- The 32-bit remainder of REMW by zero, of the dividend: R422 states none. A free value (log 23). -/
opaque remwByZero : BitVec 32 → BitVec 32

/-- The 32-bit remainder of REMUW by zero, of the dividend: R423 states none. A free value (log 23). -/
opaque remuwByZero : BitVec 32 → BitVec 32

/-- The bits of `mstatus` that `sstatus` shows: SD, UXL, MXR, SUM, XS, FS, VS, SPP, UBE, SPIE, SIE.
PRESUMED from the family, unsafe (log 12). -/
def sstatusMask : Word := 0x80000003000DE762#64

end Config

end Sys2Proof
end

