-- ==== Sys2Proof/Syntax.lean ====
section
/-! DEFINITION. The records of 30_encoding.md: declarations, argument fields, decoder-tree nodes and results of
`decide`, handler bindings; and `Instr`, one constructor for each row of opcode_table.json (its operands are the packed
values of the row's argument fields, R53, R57). -/

namespace Sys2Proof

/-- Variant tag of a declaration (R58). -/
inductive Variant where
  | rv32
  | rv64
  | common
deriving DecidableEq, Repr

/-- Which leaf a declaration produces (R59). -/
inductive Kind where
  | regular
  | nop
  | illegal
deriving DecidableEq, Repr

/-- How UPDATE-PC treats a mnemonic (R60). -/
inductive PcClass where
  | seq
  | branch
  | jump
  | trapBoundary
deriving DecidableEq, Repr

/-- The unique id of an instruction (R52, a string there): the table's mnemonics, and `other` for the ids of any further
declaration set (log 22). -/
inductive Mnemonic where
  | lui
  | auipc
  | jal
  | jalr
  | beq
  | bne
  | blt
  | bge
  | bltu
  | bgeu
  | lb
  | lh
  | lw
  | lbu
  | lhu
  | sb
  | sh
  | sw
  | addi
  | slti
  | sltiu
  | xori
  | ori
  | andi
  | slli
  | srli
  | srai
  | add
  | sub
  | sll
  | slt
  | sltu
  | xor
  | srl
  | sra
  | or
  | and
  | fence
  | ecall
  | ebreak
  | lwu
  | ld
  | sd
  | addiw
  | slliw
  | srliw
  | sraiw
  | addw
  | subw
  | sllw
  | srlw
  | sraw
  | fenceI
  | csrrw
  | csrrs
  | csrrc
  | csrrwi
  | csrrsi
  | csrrci
  | sret
  | mret
  | wfi
  | sfenceVma
  | mul
  | mulh
  | mulhsu
  | mulhu
  | div
  | divu
  | rem
  | remu
  | mulw
  | divw
  | divuw
  | remw
  | remuw
  | illegalCAddi4spnZ
  | cAddi4spn
  | cLw
  | cLd
  | cSw
  | cSd
  | cNop
  | cAddi
  | cJal
  | illegalCAddiwRd0
  | cAddiw
  | cLi
  | illegalCAddi16spZ
  | cAddi16sp
  | illegalCLuiZ
  | cLui
  | cSrli
  | cSrai
  | cAndi
  | cSub
  | cXor
  | cOr
  | cAnd
  | cSubw
  | cAddw
  | cJ
  | cBeqz
  | cBnez
  | cSlli
  | illegalCLwspRd0
  | cLwsp
  | illegalCLdspRd0
  | cLdsp
  | illegalCJrRs1z
  | cJr
  | cMv
  | cEbreak
  | cJalr
  | cAdd
  | cSwsp
  | cSdsp
  | other (n : Nat)
deriving DecidableEq, Repr

/-- One segment of a field: opcode bits `srcHi:srcLo` are placed at bits `dstLo` upward (R53). -/
structure Seg where
  srcHi : Nat
  srcLo : Nat
  dstLo : Nat
deriving DecidableEq, Repr

/-- Operand names: documentation only (R53). -/
inductive FieldName where
  | rd | rs1 | rs2 | imm | shamt | csr | uimm | rdP | rs1P | rs2P | nzimm | nzuimm
  | other (n : Nat)
deriving DecidableEq, Repr

/-- `ArgumentField` (R53). -/
structure ArgField where
  name   : FieldName
  segs   : List Seg
  signed : Bool
deriving DecidableEq, Repr

/-- `InstructionDeclaration` (R52). -/
structure Declaration where
  mnemonic : Mnemonic
  mask     : Opcode
  pattern  : Opcode
  fields   : List ArgField
  width    : Nat
  variant  : Variant
  kind     : Kind
  pcclass  : PcClass
deriving DecidableEq, Repr

/-- The three results of `decide` (R56). -/
inductive DecideResult where
  | decl (d : Declaration)
  | nop (d : Declaration)
  | illegal
deriving DecidableEq, Repr

/-- A node of a decoder tree (R55). Children are indices into the arena. -/
inductive Node where
  | switch (lo n : Nat) (child : List Nat)
  | branch (bit child0 child1 : Nat)
  | leaf (result : DecideResult)
deriving DecidableEq, Repr

/-- A decoder tree: an arena of nodes and the index of its root (R55). -/
structure Tree where
  arena : List Node
  root  : Nat
deriving DecidableEq, Repr

/-- A handler reference: the handler of the conventional meaning of that mnemonic (10_state.md R14). -/
abbrev HandlerRef := Mnemonic

/-- One entry of the binding table with its two flags (44_dispatch_loop.md R152). -/
structure Binding where
  mnemonic   : Mnemonic
  handler    : HandlerRef
  needsWidth : Bool
  needsPc    : Bool
deriving DecidableEq, Repr

/-- One constructor for each row of opcode_table.json. A row with an RV32 and an RV64 form has two, ending in 32 and 64. -/
inductive Instr where
  /-- `LUI` (R301) -/
  | lui (rd : BitVec 5) (imm : BitVec 32)
  /-- `AUIPC` (R302) -/
  | auipc (rd : BitVec 5) (imm : BitVec 32)
  /-- `JAL` (R303) -/
  | jal (rd : BitVec 5) (imm : BitVec 21)
  /-- `JALR` (R304) -/
  | jalr (rd : BitVec 5) (rs1 : BitVec 5) (imm : BitVec 12)
  /-- `BEQ` (R305) -/
  | beq (rs1 : BitVec 5) (rs2 : BitVec 5) (imm : BitVec 13)
  /-- `BNE` (R306) -/
  | bne (rs1 : BitVec 5) (rs2 : BitVec 5) (imm : BitVec 13)
  /-- `BLT` (R307) -/
  | blt (rs1 : BitVec 5) (rs2 : BitVec 5) (imm : BitVec 13)
  /-- `BGE` (R308) -/
  | bge (rs1 : BitVec 5) (rs2 : BitVec 5) (imm : BitVec 13)
  /-- `BLTU` (R309) -/
  | bltu (rs1 : BitVec 5) (rs2 : BitVec 5) (imm : BitVec 13)
  /-- `BGEU` (R310) -/
  | bgeu (rs1 : BitVec 5) (rs2 : BitVec 5) (imm : BitVec 13)
  /-- `LB` (R311) -/
  | lb (rd : BitVec 5) (rs1 : BitVec 5) (imm : BitVec 12)
  /-- `LH` (R312) -/
  | lh (rd : BitVec 5) (rs1 : BitVec 5) (imm : BitVec 12)
  /-- `LW` (R313) -/
  | lw (rd : BitVec 5) (rs1 : BitVec 5) (imm : BitVec 12)
  /-- `LBU` (R314) -/
  | lbu (rd : BitVec 5) (rs1 : BitVec 5) (imm : BitVec 12)
  /-- `LHU` (R315) -/
  | lhu (rd : BitVec 5) (rs1 : BitVec 5) (imm : BitVec 12)
  /-- `SB` (R316) -/
  | sb (rs1 : BitVec 5) (rs2 : BitVec 5) (imm : BitVec 12)
  /-- `SH` (R317) -/
  | sh (rs1 : BitVec 5) (rs2 : BitVec 5) (imm : BitVec 12)
  /-- `SW` (R318) -/
  | sw (rs1 : BitVec 5) (rs2 : BitVec 5) (imm : BitVec 12)
  /-- `ADDI` (R319) -/
  | addi (rd : BitVec 5) (rs1 : BitVec 5) (imm : BitVec 12)
  /-- `SLTI` (R320) -/
  | slti (rd : BitVec 5) (rs1 : BitVec 5) (imm : BitVec 12)
  /-- `SLTIU` (R321) -/
  | sltiu (rd : BitVec 5) (rs1 : BitVec 5) (imm : BitVec 12)
  /-- `XORI` (R322) -/
  | xori (rd : BitVec 5) (rs1 : BitVec 5) (imm : BitVec 12)
  /-- `ORI` (R323) -/
  | ori (rd : BitVec 5) (rs1 : BitVec 5) (imm : BitVec 12)
  /-- `ANDI` (R324) -/
  | andi (rd : BitVec 5) (rs1 : BitVec 5) (imm : BitVec 12)
  /-- `SLLI` (R325) -/
  | slli32 (rd : BitVec 5) (rs1 : BitVec 5) (shamt : BitVec 5)
  /-- `SRLI` (R326) -/
  | srli32 (rd : BitVec 5) (rs1 : BitVec 5) (shamt : BitVec 5)
  /-- `SRAI` (R327) -/
  | srai32 (rd : BitVec 5) (rs1 : BitVec 5) (shamt : BitVec 5)
  /-- `SLLI` (R328) -/
  | slli64 (rd : BitVec 5) (rs1 : BitVec 5) (shamt : BitVec 6)
  /-- `SRLI` (R329) -/
  | srli64 (rd : BitVec 5) (rs1 : BitVec 5) (shamt : BitVec 6)
  /-- `SRAI` (R330) -/
  | srai64 (rd : BitVec 5) (rs1 : BitVec 5) (shamt : BitVec 6)
  /-- `ADD` (R331) -/
  | add (rd : BitVec 5) (rs1 : BitVec 5) (rs2 : BitVec 5)
  /-- `SUB` (R332) -/
  | sub (rd : BitVec 5) (rs1 : BitVec 5) (rs2 : BitVec 5)
  /-- `SLL` (R333) -/
  | sll (rd : BitVec 5) (rs1 : BitVec 5) (rs2 : BitVec 5)
  /-- `SLT` (R334) -/
  | slt (rd : BitVec 5) (rs1 : BitVec 5) (rs2 : BitVec 5)
  /-- `SLTU` (R335) -/
  | sltu (rd : BitVec 5) (rs1 : BitVec 5) (rs2 : BitVec 5)
  /-- `XOR` (R336) -/
  | xor (rd : BitVec 5) (rs1 : BitVec 5) (rs2 : BitVec 5)
  /-- `SRL` (R337) -/
  | srl (rd : BitVec 5) (rs1 : BitVec 5) (rs2 : BitVec 5)
  /-- `SRA` (R338) -/
  | sra (rd : BitVec 5) (rs1 : BitVec 5) (rs2 : BitVec 5)
  /-- `OR` (R339) -/
  | or (rd : BitVec 5) (rs1 : BitVec 5) (rs2 : BitVec 5)
  /-- `AND` (R340) -/
  | and (rd : BitVec 5) (rs1 : BitVec 5) (rs2 : BitVec 5)
  /-- `FENCE` (R341) -/
  | fence
  /-- `ECALL` (R342) -/
  | ecall
  /-- `EBREAK` (R343) -/
  | ebreak
  /-- `LWU` (R344) -/
  | lwu (rd : BitVec 5) (rs1 : BitVec 5) (imm : BitVec 12)
  /-- `LD` (R345) -/
  | ld (rd : BitVec 5) (rs1 : BitVec 5) (imm : BitVec 12)
  /-- `SD` (R346) -/
  | sd (rs1 : BitVec 5) (rs2 : BitVec 5) (imm : BitVec 12)
  /-- `ADDIW` (R347) -/
  | addiw (rd : BitVec 5) (rs1 : BitVec 5) (imm : BitVec 12)
  /-- `SLLIW` (R348) -/
  | slliw (rd : BitVec 5) (rs1 : BitVec 5) (shamt : BitVec 5)
  /-- `SRLIW` (R349) -/
  | srliw (rd : BitVec 5) (rs1 : BitVec 5) (shamt : BitVec 5)
  /-- `SRAIW` (R350) -/
  | sraiw (rd : BitVec 5) (rs1 : BitVec 5) (shamt : BitVec 5)
  /-- `ADDW` (R351) -/
  | addw (rd : BitVec 5) (rs1 : BitVec 5) (rs2 : BitVec 5)
  /-- `SUBW` (R352) -/
  | subw (rd : BitVec 5) (rs1 : BitVec 5) (rs2 : BitVec 5)
  /-- `SLLW` (R353) -/
  | sllw (rd : BitVec 5) (rs1 : BitVec 5) (rs2 : BitVec 5)
  /-- `SRLW` (R354) -/
  | srlw (rd : BitVec 5) (rs1 : BitVec 5) (rs2 : BitVec 5)
  /-- `SRAW` (R355) -/
  | sraw (rd : BitVec 5) (rs1 : BitVec 5) (rs2 : BitVec 5)
  /-- `FENCE.I` (R356) -/
  | fenceI
  /-- `CSRRW` (R401) -/
  | csrrw (rd : BitVec 5) (rs1 : BitVec 5) (csr : BitVec 12)
  /-- `CSRRS` (R402) -/
  | csrrs (rd : BitVec 5) (rs1 : BitVec 5) (csr : BitVec 12)
  /-- `CSRRC` (R403) -/
  | csrrc (rd : BitVec 5) (rs1 : BitVec 5) (csr : BitVec 12)
  /-- `CSRRWI` (R404) -/
  | csrrwi (rd : BitVec 5) (uimm : BitVec 5) (csr : BitVec 12)
  /-- `CSRRSI` (R405) -/
  | csrrsi (rd : BitVec 5) (uimm : BitVec 5) (csr : BitVec 12)
  /-- `CSRRCI` (R406) -/
  | csrrci (rd : BitVec 5) (uimm : BitVec 5) (csr : BitVec 12)
  /-- `SRET` (R407) -/
  | sret
  /-- `MRET` (R408) -/
  | mret
  /-- `WFI` (R409) -/
  | wfi
  /-- `SFENCE.VMA` (R410) -/
  | sfenceVma (rs1 : BitVec 5) (rs2 : BitVec 5)
  /-- `MUL` (R411) -/
  | mul (rd : BitVec 5) (rs1 : BitVec 5) (rs2 : BitVec 5)
  /-- `MULH` (R412) -/
  | mulh (rd : BitVec 5) (rs1 : BitVec 5) (rs2 : BitVec 5)
  /-- `MULHSU` (R413) -/
  | mulhsu (rd : BitVec 5) (rs1 : BitVec 5) (rs2 : BitVec 5)
  /-- `MULHU` (R414) -/
  | mulhu (rd : BitVec 5) (rs1 : BitVec 5) (rs2 : BitVec 5)
  /-- `DIV` (R415) -/
  | div (rd : BitVec 5) (rs1 : BitVec 5) (rs2 : BitVec 5)
  /-- `DIVU` (R416) -/
  | divu (rd : BitVec 5) (rs1 : BitVec 5) (rs2 : BitVec 5)
  /-- `REM` (R417) -/
  | rem (rd : BitVec 5) (rs1 : BitVec 5) (rs2 : BitVec 5)
  /-- `REMU` (R418) -/
  | remu (rd : BitVec 5) (rs1 : BitVec 5) (rs2 : BitVec 5)
  /-- `MULW` (R419) -/
  | mulw (rd : BitVec 5) (rs1 : BitVec 5) (rs2 : BitVec 5)
  /-- `DIVW` (R420) -/
  | divw (rd : BitVec 5) (rs1 : BitVec 5) (rs2 : BitVec 5)
  /-- `DIVUW` (R421) -/
  | divuw (rd : BitVec 5) (rs1 : BitVec 5) (rs2 : BitVec 5)
  /-- `REMW` (R422) -/
  | remw (rd : BitVec 5) (rs1 : BitVec 5) (rs2 : BitVec 5)
  /-- `REMUW` (R423) -/
  | remuw (rd : BitVec 5) (rs1 : BitVec 5) (rs2 : BitVec 5)
  /-- `ILLEGAL.C.ADDI4SPN.Z` (R451) -/
  | illegalCAddi4spnZ
  /-- `C.ADDI4SPN` (R452) -/
  | cAddi4spn (rdP : BitVec 3) (nzuimm : BitVec 10)
  /-- `C.LW` (R453) -/
  | cLw (rdP : BitVec 3) (rs1P : BitVec 3) (uimm : BitVec 7)
  /-- `C.LD` (R454) -/
  | cLd (rdP : BitVec 3) (rs1P : BitVec 3) (uimm : BitVec 8)
  /-- `C.SW` (R455) -/
  | cSw (rs1P : BitVec 3) (rs2P : BitVec 3) (uimm : BitVec 7)
  /-- `C.SD` (R456) -/
  | cSd (rs1P : BitVec 3) (rs2P : BitVec 3) (uimm : BitVec 8)
  /-- `C.NOP` (R457) -/
  | cNop
  /-- `C.ADDI` (R458) -/
  | cAddi (rd : BitVec 5) (imm : BitVec 6)
  /-- `C.JAL` (R459) -/
  | cJal (imm : BitVec 12)
  /-- `ILLEGAL.C.ADDIW.RD0` (R460) -/
  | illegalCAddiwRd0
  /-- `C.ADDIW` (R461) -/
  | cAddiw (rd : BitVec 5) (imm : BitVec 6)
  /-- `C.LI` (R462) -/
  | cLi (rd : BitVec 5) (imm : BitVec 6)
  /-- `ILLEGAL.C.ADDI16SP.Z` (R463) -/
  | illegalCAddi16spZ
  /-- `C.ADDI16SP` (R464) -/
  | cAddi16sp (nzimm : BitVec 10)
  /-- `ILLEGAL.C.LUI.Z` (R465) -/
  | illegalCLuiZ
  /-- `C.LUI` (R466) -/
  | cLui (rd : BitVec 5) (nzimm : BitVec 18)
  /-- `C.SRLI` (R467) -/
  | cSrli32 (rdP : BitVec 3) (shamt : BitVec 5)
  /-- `C.SRAI` (R468) -/
  | cSrai32 (rdP : BitVec 3) (shamt : BitVec 5)
  /-- `C.SRLI` (R469) -/
  | cSrli64 (rdP : BitVec 3) (shamt : BitVec 6)
  /-- `C.SRAI` (R470) -/
  | cSrai64 (rdP : BitVec 3) (shamt : BitVec 6)
  /-- `C.ANDI` (R471) -/
  | cAndi (rdP : BitVec 3) (imm : BitVec 6)
  /-- `C.SUB` (R472) -/
  | cSub (rdP : BitVec 3) (rs2P : BitVec 3)
  /-- `C.XOR` (R473) -/
  | cXor (rdP : BitVec 3) (rs2P : BitVec 3)
  /-- `C.OR` (R474) -/
  | cOr (rdP : BitVec 3) (rs2P : BitVec 3)
  /-- `C.AND` (R475) -/
  | cAnd (rdP : BitVec 3) (rs2P : BitVec 3)
  /-- `C.SUBW` (R476) -/
  | cSubw (rdP : BitVec 3) (rs2P : BitVec 3)
  /-- `C.ADDW` (R477) -/
  | cAddw (rdP : BitVec 3) (rs2P : BitVec 3)
  /-- `C.J` (R478) -/
  | cJ (imm : BitVec 12)
  /-- `C.BEQZ` (R479) -/
  | cBeqz (rs1P : BitVec 3) (imm : BitVec 9)
  /-- `C.BNEZ` (R480) -/
  | cBnez (rs1P : BitVec 3) (imm : BitVec 9)
  /-- `C.SLLI` (R481) -/
  | cSlli32 (rd : BitVec 5) (shamt : BitVec 5)
  /-- `C.SLLI` (R482) -/
  | cSlli64 (rd : BitVec 5) (shamt : BitVec 6)
  /-- `ILLEGAL.C.LWSP.RD0` (R483) -/
  | illegalCLwspRd0
  /-- `C.LWSP` (R484) -/
  | cLwsp (rd : BitVec 5) (uimm : BitVec 8)
  /-- `ILLEGAL.C.LDSP.RD0` (R485) -/
  | illegalCLdspRd0
  /-- `C.LDSP` (R486) -/
  | cLdsp (rd : BitVec 5) (uimm : BitVec 9)
  /-- `ILLEGAL.C.JR.RS1Z` (R487) -/
  | illegalCJrRs1z
  /-- `C.JR` (R488) -/
  | cJr (rs1 : BitVec 5)
  /-- `C.MV` (R489) -/
  | cMv (rd : BitVec 5) (rs2 : BitVec 5)
  /-- `C.EBREAK` (R490) -/
  | cEbreak
  /-- `C.JALR` (R491) -/
  | cJalr (rs1 : BitVec 5)
  /-- `C.ADD` (R492) -/
  | cAdd (rd : BitVec 5) (rs2 : BitVec 5)
  /-- `C.SWSP` (R493) -/
  | cSwsp (rs2 : BitVec 5) (uimm : BitVec 8)
  /-- `C.SDSP` (R494) -/
  | cSdsp (rs2 : BitVec 5) (uimm : BitVec 9)
deriving DecidableEq, Repr

end Sys2Proof
end

