-- ==== Sys2Proof/WellFormed.lean ====
section
/-! DEFINITION. Well-formedness of a declaration (40_declaration_model.md R83), of a declaration set (R84), and of an
instruction under a register width: its encoding exists and `decide` gives it back. -/

namespace Sys2Proof

/-- The bits `hi` down to `lo` of an opcode word, as a mask. -/
def bitRange (hi lo : Nat) : Opcode := ((1#32 <<< (hi + 1 - lo)) - 1#32) <<< lo

/-- The source bits of a segment. -/
def Seg.srcMask (g : Seg) : Opcode := bitRange g.srcHi g.srcLo

/-- The destination bits of a segment, in the 64-bit packed value. -/
def Seg.dstMask (g : Seg) : Word := ((1#64 <<< (g.srcHi + 1 - g.srcLo)) - 1#64) <<< g.dstLo

/-- The record conditions of R53 on one segment. -/
def Seg.wf (g : Seg) : Bool :=
  decide (g.srcLo ≤ g.srcHi) && decide (g.srcHi ≤ 31) && decide (g.dstLo + (g.srcHi - g.srcLo) ≤ 63)

/-- `nbits`: the width of the packed value (R53). -/
def ArgField.nbits (f : ArgField) : Nat :=
  f.segs.foldl (fun n g => max n (g.dstLo + (g.srcHi - g.srcLo) + 1)) 0

/-- The opcode bits a field reads. -/
def ArgField.srcMask (f : ArgField) : Opcode := f.segs.foldl (fun m g => m ||| g.srcMask) 0

/-- The destination bits of a field that some segment covers. -/
def ArgField.dstMask (f : ArgField) : Word := f.segs.foldl (fun m g => m ||| g.dstMask) 0

/-- No two members share a bit. -/
def disjointMasks {w : Nat} : List (BitVec w) → Bool
  | [] => true
  | m :: ms => ms.all (fun k => m &&& k == 0) && disjointMasks ms

/-- Condition 1 of R83. -/
def Declaration.widthOk (d : Declaration) : Bool := d.width == 2 || d.width == 4

/-- Condition 2 of R83. -/
def Declaration.patternOk (d : Declaration) : Bool := d.pattern &&& ~~~d.mask == 0

/-- Condition 3 of R83: bits 1:0 are fixed and tell the width. -/
def Declaration.lengthBitsOk (d : Declaration) : Bool :=
  d.mask &&& 3 == 3 && ((d.pattern &&& 3 == 3) == (d.width == 4))

/-- Condition 4 of R83. -/
def Declaration.upperHalfOk (d : Declaration) : Bool :=
  d.width != 2 || ((d.mask &&& 0xFFFF0000 == 0) && d.fields.all (fun f => f.srcMask &&& 0xFFFF0000 == 0))

/-- Condition 5 of R83, with the record conditions of R53. -/
def Declaration.segmentsOk (d : Declaration) : Bool :=
  d.fields.all fun f =>
    !f.segs.isEmpty && f.segs.all Seg.wf && disjointMasks (f.segs.map Seg.srcMask) &&
      disjointMasks (f.segs.map Seg.dstMask)

/-- Condition 6 of R83. -/
def Declaration.fieldsOk (d : Declaration) : Bool :=
  d.fields.all (fun f => f.srcMask &&& d.mask == 0) && disjointMasks (d.fields.map ArgField.srcMask)

/-- Condition 7 of R83. -/
def Declaration.arityOk (d : Declaration) : Bool := decide (d.fields.length ≤ Config.maxOperands)

/-- Condition 8 of R83. -/
def Declaration.markerOk (d : Declaration) : Bool := d.kind == .regular || d.fields.isEmpty

/-- R83: the eight conditions. -/
def Declaration.wf (d : Declaration) : Bool :=
  d.widthOk && d.patternOk && d.lengthBitsOk && d.upperHalfOk && d.segmentsOk && d.fieldsOk && d.arityOk && d.markerOk

/-- No two declarations have the same mnemonic (R84). -/
def distinctMnemonics : List Declaration → Bool
  | [] => true
  | d :: ds => ds.all (fun e => d.mnemonic != e.mnemonic) && distinctMnemonics ds

/-- All declarations of one mnemonic have the same `pcclass` and `kind` (R84): a condition on the whole of DECLS, which
STARTUP checks (`declSetWf`), since inside one variant mnemonics are distinct. -/
def consistentMnemonics (ds : List Declaration) : Bool :=
  ds.all fun d => ds.all fun e => d.mnemonic != e.mnemonic || (d.pcclass == e.pcclass && d.kind == e.kind)

/-- R84 for the declarations of one variant's tree, as far as they alone show it. -/
def variantSetWf (ds : List Declaration) : Bool := distinctMnemonics ds && consistentMnemonics ds

namespace Instr

/-- The low `n` bits are zero: destination positions that no segment covers (43_application.md R134). -/
def lowZero {w : Nat} (n : Nat) (v : BitVec w) : Bool := v.toNat % 2 ^ n == 0

/-- The instruction is encodable and decodes to itself under register width `x`: every operand has zeros where its field
has no source bit (R134), a row of one variant is under that width (R58), and no more specific declaration wins its word
(R86, 48_reference_rv_compressed.md R495). -/
def wf (x : Xlen) : Instr → Bool
  | .lui _ imm => lowZero 12 imm
  | .auipc _ imm => lowZero 12 imm
  | .jal _ imm => lowZero 1 imm
  | .jalr _ _ _ => true
  | .beq _ _ imm => lowZero 1 imm
  | .bne _ _ imm => lowZero 1 imm
  | .blt _ _ imm => lowZero 1 imm
  | .bge _ _ imm => lowZero 1 imm
  | .bltu _ _ imm => lowZero 1 imm
  | .bgeu _ _ imm => lowZero 1 imm
  | .lb _ _ _ => true
  | .lh _ _ _ => true
  | .lw _ _ _ => true
  | .lbu _ _ _ => true
  | .lhu _ _ _ => true
  | .sb _ _ _ => true
  | .sh _ _ _ => true
  | .sw _ _ _ => true
  | .addi _ _ _ => true
  | .slti _ _ _ => true
  | .sltiu _ _ _ => true
  | .xori _ _ _ => true
  | .ori _ _ _ => true
  | .andi _ _ _ => true
  | .slli32 _ _ _ => x == .w32
  | .srli32 _ _ _ => x == .w32
  | .srai32 _ _ _ => x == .w32
  | .slli64 _ _ _ => x == .w64
  | .srli64 _ _ _ => x == .w64
  | .srai64 _ _ _ => x == .w64
  | .add _ _ _ => true
  | .sub _ _ _ => true
  | .sll _ _ _ => true
  | .slt _ _ _ => true
  | .sltu _ _ _ => true
  | .xor _ _ _ => true
  | .srl _ _ _ => true
  | .sra _ _ _ => true
  | .or _ _ _ => true
  | .and _ _ _ => true
  | .fence => true
  | .ecall => true
  | .ebreak => true
  | .lwu _ _ _ => x == .w64
  | .ld _ _ _ => x == .w64
  | .sd _ _ _ => x == .w64
  | .addiw _ _ _ => x == .w64
  | .slliw _ _ _ => x == .w64
  | .srliw _ _ _ => x == .w64
  | .sraiw _ _ _ => x == .w64
  | .addw _ _ _ => x == .w64
  | .subw _ _ _ => x == .w64
  | .sllw _ _ _ => x == .w64
  | .srlw _ _ _ => x == .w64
  | .sraw _ _ _ => x == .w64
  | .fenceI => true
  | .csrrw _ _ _ => true
  | .csrrs _ _ _ => true
  | .csrrc _ _ _ => true
  | .csrrwi _ _ _ => true
  | .csrrsi _ _ _ => true
  | .csrrci _ _ _ => true
  | .sret => true
  | .mret => true
  | .wfi => true
  | .sfenceVma _ _ => true
  | .mul _ _ _ => true
  | .mulh _ _ _ => true
  | .mulhsu _ _ _ => true
  | .mulhu _ _ _ => true
  | .div _ _ _ => true
  | .divu _ _ _ => true
  | .rem _ _ _ => true
  | .remu _ _ _ => true
  | .mulw _ _ _ => x == .w64
  | .divw _ _ _ => x == .w64
  | .divuw _ _ _ => x == .w64
  | .remw _ _ _ => x == .w64
  | .remuw _ _ _ => x == .w64
  | .illegalCAddi4spnZ => true
  | .cAddi4spn _ nzuimm => lowZero 2 nzuimm && nzuimm != 0
  | .cLw _ _ uimm => lowZero 2 uimm
  | .cLd _ _ uimm => x == .w64 && lowZero 3 uimm
  | .cSw _ _ uimm => lowZero 2 uimm
  | .cSd _ _ uimm => x == .w64 && lowZero 3 uimm
  | .cNop => true
  | .cAddi rd _ => rd != 0
  | .cJal imm => x == .w32 && lowZero 1 imm
  | .illegalCAddiwRd0 => x == .w64
  | .cAddiw rd _ => x == .w64 && rd != 0
  | .cLi _ _ => true
  | .illegalCAddi16spZ => true
  | .cAddi16sp nzimm => lowZero 4 nzimm && nzimm != 0
  | .illegalCLuiZ => true
  | .cLui rd nzimm => rd != 2 && lowZero 12 nzimm && nzimm != 0
  | .cSrli32 _ _ => x == .w32
  | .cSrai32 _ _ => x == .w32
  | .cSrli64 _ _ => x == .w64
  | .cSrai64 _ _ => x == .w64
  | .cAndi _ _ => true
  | .cSub _ _ => true
  | .cXor _ _ => true
  | .cOr _ _ => true
  | .cAnd _ _ => true
  | .cSubw _ _ => x == .w64
  | .cAddw _ _ => x == .w64
  | .cJ imm => lowZero 1 imm
  | .cBeqz _ imm => lowZero 1 imm
  | .cBnez _ imm => lowZero 1 imm
  | .cSlli32 _ _ => x == .w32
  | .cSlli64 _ _ => x == .w64
  | .illegalCLwspRd0 => true
  | .cLwsp rd uimm => rd != 0 && lowZero 2 uimm
  | .illegalCLdspRd0 => x == .w64
  | .cLdsp rd uimm => x == .w64 && rd != 0 && lowZero 3 uimm
  | .illegalCJrRs1z => true
  | .cJr rs1 => rs1 != 0
  | .cMv _ rs2 => rs2 != 0
  | .cEbreak => true
  | .cJalr rs1 => rs1 != 0
  | .cAdd _ rs2 => rs2 != 0
  | .cSwsp _ uimm => lowZero 2 uimm
  | .cSdsp _ uimm => x == .w64 && lowZero 3 uimm

end Instr

end Sys2Proof
end

