-- ==== Sys2Proof/Decode.lean ====
section
/-! DEFINITION. The opcode pattern matcher and what decoding means (40_declaration_model.md), operand extraction and its
inverse (43_application.md), the reference declarations (46_ to 48_, opcode_table.json), the decoder of the reference
machine and, after it, the encoder. -/

namespace Sys2Proof

/-! ## Matching and precedence (R80 to R88) -/

namespace Declaration

/-- `Match(d, w)` (R80). -/
def isMatch (d : Declaration) (w : Opcode) : Bool := w &&& d.mask == d.pattern

/-- `FixedBits(d)`: the number of 1 bits of the mask (R81). -/
def fixedBits (d : Declaration) : Nat := (List.range 32).countP (fun i => d.mask.getLsbD i)

/-- `Overlap(d1, d2)` (R82). -/
def overlaps (d1 d2 : Declaration) : Bool := (d1.pattern ^^^ d2.pattern) &&& d1.mask &&& d2.mask == 0

/-- Is the declaration in the tree of this width (R58, 10_state.md R13)? -/
def inTree (x : Xlen) (d : Declaration) : Bool :=
  match d.variant, x with
  | .common, _ => true
  | .rv32, .w32 => true
  | .rv64, .w64 => true
  | .rv32, .w64 => false
  | .rv64, .w32 => false

end Declaration

/-- `D32` or `D64`: the declarations of one tree (R84). -/
def variantDecls (x : Xlen) (ds : List Declaration) : List Declaration := ds.filter (Declaration.inTree x)

/-- R84 for the whole of DECLS: each variant's set, and one PC class and one kind for each mnemonic, across the two variants too
(92_eei_decisions.md D13, 70_reset_and_hazards.md R239 (d)). -/
def declSetWf (ds : List Declaration) : Bool :=
  variantSetWf (variantDecls .w32 ds) && variantSetWf (variantDecls .w64 ds) && consistentMnemonics ds

/-- `MatchSet(D, w)` (R85). -/
def matchSet (ds : List Declaration) (w : Opcode) : List Declaration := ds.filter (fun d => d.isMatch w)

/-- The member with the greatest number of fixed bits; the first of them where several tie (a tie is fatal at BUILD, R87). -/
def mostSpecific : List Declaration → Option Declaration
  | [] => none
  | d :: ds =>
    match mostSpecific ds with
    | none => some d
    | some e => if d.fixedBits < e.fixedBits then some e else some d

/-- The declaration that wins the word `w`, of whatever kind (R86). -/
def winner (ds : List Declaration) (w : Opcode) : Option Declaration := mostSpecific (matchSet ds w)

/-- The result that a winning declaration stands for (R56, R59, R108). -/
def resultOf (d : Declaration) : DecideResult :=
  match d.kind with
  | .regular => .decl d
  | .nop => .nop d
  | .illegal => .illegal

/-- `DecideSpec(D, w)`: what decoding means (R86). -/
def decideSpec (ds : List Declaration) (w : Opcode) : DecideResult :=
  match winner ds w with
  | none => .illegal
  | some d => resultOf d

/-- Some word has two different declarations that tie at the greatest number of fixed bits (R87). -/
def Ambiguous (ds : List Declaration) : Prop :=
  ∃ w : Opcode, ∃ d1 ∈ matchSet ds w, ∃ d2 ∈ matchSet ds w, d1 ≠ d2 ∧ d1.fixedBits = d2.fixedBits ∧
    ∀ e ∈ matchSet ds w, e.fixedBits ≤ d1.fixedBits

/-- R88 on one variant's decoding function: ECALL is a TRAPBOUNDARY declaration, and the zero word is illegal. -/
def conforms (dec : Opcode → DecideResult) : Bool :=
  (match dec 0x00000073#32 with
    | .decl d => d.mnemonic == .ecall && d.pcclass == .trapBoundary
    | .nop _ => false
    | .illegal => false) && dec 0#32 == .illegal

/-! ## Operand extraction and its inverse (R130 to R134) -/

/-- Bits `hi:lo` of an opcode word as a 64-bit value (00_scope.md R5). -/
def opcodeBits (w : Opcode) (hi lo : Nat) : Word := ((w &&& bitRange hi lo) >>> lo).setWidth 64

/-- The packed value of a field, before sign extension (R131). -/
def gather (segs : List Seg) (w : Opcode) : Word :=
  segs.foldl (fun v g => v ||| (opcodeBits w g.srcHi g.srcLo <<< g.dstLo)) 0

/-- `sext_n` (00_scope.md R6) on a 64-bit carrier. -/
def signExtendFrom (n : Nat) (v : Word) : Word := (v.setWidth n).signExtend 64

/-- `Extract(f, opcode)` (R131). -/
def extract (f : ArgField) (w : Opcode) : Word :=
  let v := gather f.segs w
  if f.signed then signExtendFrom f.nbits v else v

/-- `apply(d, opcode)` (R130). -/
def apply (d : Declaration) (w : Opcode) : List Word := d.fields.map (fun f => extract f w)

/-- Bits of an operand value put back at the source bits of a segment (R134). -/
def scatterSeg (g : Seg) (v : Word) : Opcode :=
  (((v >>> g.dstLo).setWidth 32) &&& bitRange (g.srcHi - g.srcLo) 0) <<< g.srcLo

/-- The opcode bits of one operand (R134). -/
def scatter (segs : List Seg) (v : Word) : Opcode := segs.foldl (fun w g => w ||| scatterSeg g v) 0

/-- The word that `encode` makes of in-range values: every operand scattered over the pattern (R134). -/
def encodeWith (d : Declaration) (values : List Word) : Opcode :=
  (d.fields.zip values).foldl (fun w fv => w ||| scatter fv.1.segs fv.2) d.pattern

/-- One value is in range for its field (R134). -/
def fieldInRange (f : ArgField) (v : Word) : Bool :=
  (if f.signed then signExtendFrom f.nbits v == v else (v.setWidth f.nbits).setWidth 64 == v) &&
    ((v &&& ~~~f.dstMask).setWidth f.nbits == 0#f.nbits)

/-- The values are in range for the declaration (R134). -/
def valuesInRange (d : Declaration) (values : List Word) : Bool :=
  values.length == d.fields.length && (d.fields.zip values).all (fun fv => fieldInRange fv.1 fv.2)

/-- `encode(d, values)` (R134): values out of range, or of the wrong number, are refused (93_implementation_defined.md U18). -/
def encodeChecked (d : Declaration) (values : List Word) : Option Opcode :=
  if valuesInRange d values then some (encodeWith d values) else none

/-! ## The reference fields (30_encoding.md R61) -/

/-- An unsigned field. -/
def ufield (n : FieldName) (segs : List Seg) : ArgField := ⟨n, segs, false⟩

/-- A signed field. -/
def sfield (n : FieldName) (segs : List Seg) : ArgField := ⟨n, segs, true⟩

namespace Fld

def rd : ArgField := ufield .rd [⟨11, 7, 0⟩]
def immU : ArgField := sfield .imm [⟨31, 12, 12⟩]
def immJ : ArgField := sfield .imm [⟨31, 31, 20⟩, ⟨19, 12, 12⟩, ⟨20, 20, 11⟩, ⟨30, 21, 1⟩]
def rs1 : ArgField := ufield .rs1 [⟨19, 15, 0⟩]
def immI : ArgField := sfield .imm [⟨31, 20, 0⟩]
def rs2 : ArgField := ufield .rs2 [⟨24, 20, 0⟩]
def immB : ArgField := sfield .imm [⟨31, 31, 12⟩, ⟨7, 7, 11⟩, ⟨30, 25, 5⟩, ⟨11, 8, 1⟩]
def immS : ArgField := sfield .imm [⟨31, 25, 5⟩, ⟨11, 7, 0⟩]
def shamt5 : ArgField := ufield .shamt [⟨24, 20, 0⟩]
def shamt6 : ArgField := ufield .shamt [⟨25, 20, 0⟩]
def csr : ArgField := ufield .csr [⟨31, 20, 0⟩]
def uimm5 : ArgField := ufield .uimm [⟨19, 15, 0⟩]
def rdPLow : ArgField := ufield .rdP [⟨4, 2, 0⟩]
def nzuimmCiw : ArgField := ufield .nzuimm [⟨12, 11, 4⟩, ⟨10, 7, 6⟩, ⟨6, 6, 2⟩, ⟨5, 5, 3⟩]
def rs1P : ArgField := ufield .rs1P [⟨9, 7, 0⟩]
def uimmClW : ArgField := ufield .uimm [⟨12, 10, 3⟩, ⟨6, 6, 2⟩, ⟨5, 5, 6⟩]
def uimmClD : ArgField := ufield .uimm [⟨12, 10, 3⟩, ⟨6, 5, 6⟩]
def rs2P : ArgField := ufield .rs2P [⟨4, 2, 0⟩]
def immCi : ArgField := sfield .imm [⟨12, 12, 5⟩, ⟨6, 2, 0⟩]
def immCj : ArgField := sfield .imm [⟨12, 12, 11⟩, ⟨11, 11, 4⟩, ⟨10, 9, 8⟩, ⟨8, 8, 10⟩, ⟨7, 7, 6⟩, ⟨6, 6, 7⟩, ⟨5, 3, 1⟩, ⟨2, 2, 5⟩]
def nzimmCi16sp : ArgField := sfield .nzimm [⟨12, 12, 9⟩, ⟨6, 6, 4⟩, ⟨5, 5, 6⟩, ⟨4, 3, 7⟩, ⟨2, 2, 5⟩]
def nzimmCiLui : ArgField := sfield .nzimm [⟨12, 12, 17⟩, ⟨6, 2, 12⟩]
def rdPHigh : ArgField := ufield .rdP [⟨9, 7, 0⟩]
def shamtC5 : ArgField := ufield .shamt [⟨6, 2, 0⟩]
def shamtC6 : ArgField := ufield .shamt [⟨12, 12, 5⟩, ⟨6, 2, 0⟩]
def immCb : ArgField := sfield .imm [⟨12, 12, 8⟩, ⟨11, 10, 3⟩, ⟨6, 5, 6⟩, ⟨4, 3, 1⟩, ⟨2, 2, 5⟩]
def uimmLwsp : ArgField := ufield .uimm [⟨12, 12, 5⟩, ⟨6, 4, 2⟩, ⟨3, 2, 6⟩]
def uimmLdsp : ArgField := ufield .uimm [⟨12, 12, 5⟩, ⟨6, 5, 3⟩, ⟨4, 2, 6⟩]
def rs1Cr : ArgField := ufield .rs1 [⟨11, 7, 0⟩]
def rs2Cr : ArgField := ufield .rs2 [⟨6, 2, 0⟩]
def uimmSwsp : ArgField := ufield .uimm [⟨12, 9, 2⟩, ⟨8, 7, 6⟩]
def uimmSdsp : ArgField := ufield .uimm [⟨12, 10, 3⟩, ⟨9, 7, 6⟩]

end Fld

/-! ## The reference declaration set `REF_DECLS` (R63; rules R301 to R494) -/

/-- A REGULAR row of the table. -/
def row (m : Mnemonic) (mask pattern : Opcode) (fields : List ArgField) (width : Nat) (v : Variant) (c : PcClass) :
    Declaration := ⟨m, mask, pattern, fields, width, v, .regular, c⟩

/-- A marker row: no fields (R59). -/
def markerRow (m : Mnemonic) (mask pattern : Opcode) (v : Variant) (k : Kind) : Declaration :=
  ⟨m, mask, pattern, [], 2, v, k, .seq⟩

namespace Ref

open Fld

def lui : Declaration := row .lui 0x0000007F 0x00000037 [rd, immU] 4 .common .seq
def auipc : Declaration := row .auipc 0x0000007F 0x00000017 [rd, immU] 4 .common .seq
def jal : Declaration := row .jal 0x0000007F 0x0000006F [rd, immJ] 4 .common .jump
def jalr : Declaration := row .jalr 0x0000707F 0x00000067 [rd, rs1, immI] 4 .common .jump
def beq : Declaration := row .beq 0x0000707F 0x00000063 [rs1, rs2, immB] 4 .common .branch
def bne : Declaration := row .bne 0x0000707F 0x00001063 [rs1, rs2, immB] 4 .common .branch
def blt : Declaration := row .blt 0x0000707F 0x00004063 [rs1, rs2, immB] 4 .common .branch
def bge : Declaration := row .bge 0x0000707F 0x00005063 [rs1, rs2, immB] 4 .common .branch
def bltu : Declaration := row .bltu 0x0000707F 0x00006063 [rs1, rs2, immB] 4 .common .branch
def bgeu : Declaration := row .bgeu 0x0000707F 0x00007063 [rs1, rs2, immB] 4 .common .branch
def lb : Declaration := row .lb 0x0000707F 0x00000003 [rd, rs1, immI] 4 .common .seq
def lh : Declaration := row .lh 0x0000707F 0x00001003 [rd, rs1, immI] 4 .common .seq
def lw : Declaration := row .lw 0x0000707F 0x00002003 [rd, rs1, immI] 4 .common .seq
def lbu : Declaration := row .lbu 0x0000707F 0x00004003 [rd, rs1, immI] 4 .common .seq
def lhu : Declaration := row .lhu 0x0000707F 0x00005003 [rd, rs1, immI] 4 .common .seq
def sb : Declaration := row .sb 0x0000707F 0x00000023 [rs1, rs2, immS] 4 .common .seq
def sh : Declaration := row .sh 0x0000707F 0x00001023 [rs1, rs2, immS] 4 .common .seq
def sw : Declaration := row .sw 0x0000707F 0x00002023 [rs1, rs2, immS] 4 .common .seq
def addi : Declaration := row .addi 0x0000707F 0x00000013 [rd, rs1, immI] 4 .common .seq
def slti : Declaration := row .slti 0x0000707F 0x00002013 [rd, rs1, immI] 4 .common .seq
def sltiu : Declaration := row .sltiu 0x0000707F 0x00003013 [rd, rs1, immI] 4 .common .seq
def xori : Declaration := row .xori 0x0000707F 0x00004013 [rd, rs1, immI] 4 .common .seq
def ori : Declaration := row .ori 0x0000707F 0x00006013 [rd, rs1, immI] 4 .common .seq
def andi : Declaration := row .andi 0x0000707F 0x00007013 [rd, rs1, immI] 4 .common .seq
def slli32 : Declaration := row .slli 0xFE00707F 0x00001013 [rd, rs1, shamt5] 4 .rv32 .seq
def srli32 : Declaration := row .srli 0xFE00707F 0x00005013 [rd, rs1, shamt5] 4 .rv32 .seq
def srai32 : Declaration := row .srai 0xFE00707F 0x40005013 [rd, rs1, shamt5] 4 .rv32 .seq
def slli64 : Declaration := row .slli 0xFC00707F 0x00001013 [rd, rs1, shamt6] 4 .rv64 .seq
def srli64 : Declaration := row .srli 0xFC00707F 0x00005013 [rd, rs1, shamt6] 4 .rv64 .seq
def srai64 : Declaration := row .srai 0xFC00707F 0x40005013 [rd, rs1, shamt6] 4 .rv64 .seq
def add : Declaration := row .add 0xFE00707F 0x00000033 [rd, rs1, rs2] 4 .common .seq
def sub : Declaration := row .sub 0xFE00707F 0x40000033 [rd, rs1, rs2] 4 .common .seq
def sll : Declaration := row .sll 0xFE00707F 0x00001033 [rd, rs1, rs2] 4 .common .seq
def slt : Declaration := row .slt 0xFE00707F 0x00002033 [rd, rs1, rs2] 4 .common .seq
def sltu : Declaration := row .sltu 0xFE00707F 0x00003033 [rd, rs1, rs2] 4 .common .seq
def xor : Declaration := row .xor 0xFE00707F 0x00004033 [rd, rs1, rs2] 4 .common .seq
def srl : Declaration := row .srl 0xFE00707F 0x00005033 [rd, rs1, rs2] 4 .common .seq
def sra : Declaration := row .sra 0xFE00707F 0x40005033 [rd, rs1, rs2] 4 .common .seq
def or : Declaration := row .or 0xFE00707F 0x00006033 [rd, rs1, rs2] 4 .common .seq
def and : Declaration := row .and 0xFE00707F 0x00007033 [rd, rs1, rs2] 4 .common .seq
def fence : Declaration := row .fence 0x0000707F 0x0000000F [] 4 .common .seq
def ecall : Declaration := row .ecall 0xFFFFFFFF 0x00000073 [] 4 .common .trapBoundary
def ebreak : Declaration := row .ebreak 0xFFFFFFFF 0x00100073 [] 4 .common .trapBoundary
def lwu : Declaration := row .lwu 0x0000707F 0x00006003 [rd, rs1, immI] 4 .rv64 .seq
def ld : Declaration := row .ld 0x0000707F 0x00003003 [rd, rs1, immI] 4 .rv64 .seq
def sd : Declaration := row .sd 0x0000707F 0x00003023 [rs1, rs2, immS] 4 .rv64 .seq
def addiw : Declaration := row .addiw 0x0000707F 0x0000001B [rd, rs1, immI] 4 .rv64 .seq
def slliw : Declaration := row .slliw 0xFE00707F 0x0000101B [rd, rs1, shamt5] 4 .rv64 .seq
def srliw : Declaration := row .srliw 0xFE00707F 0x0000501B [rd, rs1, shamt5] 4 .rv64 .seq
def sraiw : Declaration := row .sraiw 0xFE00707F 0x4000501B [rd, rs1, shamt5] 4 .rv64 .seq
def addw : Declaration := row .addw 0xFE00707F 0x0000003B [rd, rs1, rs2] 4 .rv64 .seq
def subw : Declaration := row .subw 0xFE00707F 0x4000003B [rd, rs1, rs2] 4 .rv64 .seq
def sllw : Declaration := row .sllw 0xFE00707F 0x0000103B [rd, rs1, rs2] 4 .rv64 .seq
def srlw : Declaration := row .srlw 0xFE00707F 0x0000503B [rd, rs1, rs2] 4 .rv64 .seq
def sraw : Declaration := row .sraw 0xFE00707F 0x4000503B [rd, rs1, rs2] 4 .rv64 .seq
def fenceI : Declaration := row .fenceI 0x0000707F 0x0000100F [] 4 .common .seq
def csrrw : Declaration := row .csrrw 0x0000707F 0x00001073 [rd, rs1, csr] 4 .common .seq
def csrrs : Declaration := row .csrrs 0x0000707F 0x00002073 [rd, rs1, csr] 4 .common .seq
def csrrc : Declaration := row .csrrc 0x0000707F 0x00003073 [rd, rs1, csr] 4 .common .seq
def csrrwi : Declaration := row .csrrwi 0x0000707F 0x00005073 [rd, uimm5, csr] 4 .common .seq
def csrrsi : Declaration := row .csrrsi 0x0000707F 0x00006073 [rd, uimm5, csr] 4 .common .seq
def csrrci : Declaration := row .csrrci 0x0000707F 0x00007073 [rd, uimm5, csr] 4 .common .seq
def sret : Declaration := row .sret 0xFFFFFFFF 0x10200073 [] 4 .common .trapBoundary
def mret : Declaration := row .mret 0xFFFFFFFF 0x30200073 [] 4 .common .trapBoundary
def wfi : Declaration := row .wfi 0xFFFFFFFF 0x10500073 [] 4 .common .seq
def sfenceVma : Declaration := row .sfenceVma 0xFE007FFF 0x12000073 [rs1, rs2] 4 .common .seq
def mul : Declaration := row .mul 0xFE00707F 0x02000033 [rd, rs1, rs2] 4 .common .seq
def mulh : Declaration := row .mulh 0xFE00707F 0x02001033 [rd, rs1, rs2] 4 .common .seq
def mulhsu : Declaration := row .mulhsu 0xFE00707F 0x02002033 [rd, rs1, rs2] 4 .common .seq
def mulhu : Declaration := row .mulhu 0xFE00707F 0x02003033 [rd, rs1, rs2] 4 .common .seq
def div : Declaration := row .div 0xFE00707F 0x02004033 [rd, rs1, rs2] 4 .common .seq
def divu : Declaration := row .divu 0xFE00707F 0x02005033 [rd, rs1, rs2] 4 .common .seq
def rem : Declaration := row .rem 0xFE00707F 0x02006033 [rd, rs1, rs2] 4 .common .seq
def remu : Declaration := row .remu 0xFE00707F 0x02007033 [rd, rs1, rs2] 4 .common .seq
def mulw : Declaration := row .mulw 0xFE00707F 0x0200003B [rd, rs1, rs2] 4 .rv64 .seq
def divw : Declaration := row .divw 0xFE00707F 0x0200403B [rd, rs1, rs2] 4 .rv64 .seq
def divuw : Declaration := row .divuw 0xFE00707F 0x0200503B [rd, rs1, rs2] 4 .rv64 .seq
def remw : Declaration := row .remw 0xFE00707F 0x0200603B [rd, rs1, rs2] 4 .rv64 .seq
def remuw : Declaration := row .remuw 0xFE00707F 0x0200703B [rd, rs1, rs2] 4 .rv64 .seq
def illegalCAddi4spnZ : Declaration := markerRow .illegalCAddi4spnZ 0x0000FFE3 0x00000000 .common .illegal
def cAddi4spn : Declaration := row .cAddi4spn 0x0000E003 0x00000000 [rdPLow, nzuimmCiw] 2 .common .seq
def cLw : Declaration := row .cLw 0x0000E003 0x00004000 [rdPLow, rs1P, uimmClW] 2 .common .seq
def cLd : Declaration := row .cLd 0x0000E003 0x00006000 [rdPLow, rs1P, uimmClD] 2 .rv64 .seq
def cSw : Declaration := row .cSw 0x0000E003 0x0000C000 [rs1P, rs2P, uimmClW] 2 .common .seq
def cSd : Declaration := row .cSd 0x0000E003 0x0000E000 [rs1P, rs2P, uimmClD] 2 .rv64 .seq
def cNop : Declaration := markerRow .cNop 0x0000EF83 0x00000001 .common .nop
def cAddi : Declaration := row .cAddi 0x0000E003 0x00000001 [rd, immCi] 2 .common .seq
def cJal : Declaration := row .cJal 0x0000E003 0x00002001 [immCj] 2 .rv32 .jump
def illegalCAddiwRd0 : Declaration := markerRow .illegalCAddiwRd0 0x0000EF83 0x00002001 .rv64 .illegal
def cAddiw : Declaration := row .cAddiw 0x0000E003 0x00002001 [rd, immCi] 2 .rv64 .seq
def cLi : Declaration := row .cLi 0x0000E003 0x00004001 [rd, immCi] 2 .common .seq
def illegalCAddi16spZ : Declaration := markerRow .illegalCAddi16spZ 0x0000FFFF 0x00006101 .common .illegal
def cAddi16sp : Declaration := row .cAddi16sp 0x0000EF83 0x00006101 [nzimmCi16sp] 2 .common .seq
def illegalCLuiZ : Declaration := markerRow .illegalCLuiZ 0x0000F07F 0x00006001 .common .illegal
def cLui : Declaration := row .cLui 0x0000E003 0x00006001 [rd, nzimmCiLui] 2 .common .seq
def cSrli32 : Declaration := row .cSrli 0x0000FC03 0x00008001 [rdPHigh, shamtC5] 2 .rv32 .seq
def cSrai32 : Declaration := row .cSrai 0x0000FC03 0x00008401 [rdPHigh, shamtC5] 2 .rv32 .seq
def cSrli64 : Declaration := row .cSrli 0x0000EC03 0x00008001 [rdPHigh, shamtC6] 2 .rv64 .seq
def cSrai64 : Declaration := row .cSrai 0x0000EC03 0x00008401 [rdPHigh, shamtC6] 2 .rv64 .seq
def cAndi : Declaration := row .cAndi 0x0000EC03 0x00008801 [rdPHigh, immCi] 2 .common .seq
def cSub : Declaration := row .cSub 0x0000FC63 0x00008C01 [rdPHigh, rs2P] 2 .common .seq
def cXor : Declaration := row .cXor 0x0000FC63 0x00008C21 [rdPHigh, rs2P] 2 .common .seq
def cOr : Declaration := row .cOr 0x0000FC63 0x00008C41 [rdPHigh, rs2P] 2 .common .seq
def cAnd : Declaration := row .cAnd 0x0000FC63 0x00008C61 [rdPHigh, rs2P] 2 .common .seq
def cSubw : Declaration := row .cSubw 0x0000FC63 0x00009C01 [rdPHigh, rs2P] 2 .rv64 .seq
def cAddw : Declaration := row .cAddw 0x0000FC63 0x00009C21 [rdPHigh, rs2P] 2 .rv64 .seq
def cJ : Declaration := row .cJ 0x0000E003 0x0000A001 [immCj] 2 .common .jump
def cBeqz : Declaration := row .cBeqz 0x0000E003 0x0000C001 [rs1P, immCb] 2 .common .branch
def cBnez : Declaration := row .cBnez 0x0000E003 0x0000E001 [rs1P, immCb] 2 .common .branch
def cSlli32 : Declaration := row .cSlli 0x0000F003 0x00000002 [rd, shamtC5] 2 .rv32 .seq
def cSlli64 : Declaration := row .cSlli 0x0000E003 0x00000002 [rd, shamtC6] 2 .rv64 .seq
def illegalCLwspRd0 : Declaration := markerRow .illegalCLwspRd0 0x0000EF83 0x00004002 .common .illegal
def cLwsp : Declaration := row .cLwsp 0x0000E003 0x00004002 [rd, uimmLwsp] 2 .common .seq
def illegalCLdspRd0 : Declaration := markerRow .illegalCLdspRd0 0x0000EF83 0x00006002 .rv64 .illegal
def cLdsp : Declaration := row .cLdsp 0x0000E003 0x00006002 [rd, uimmLdsp] 2 .rv64 .seq
def illegalCJrRs1z : Declaration := markerRow .illegalCJrRs1z 0x0000FFFF 0x00008002 .common .illegal
def cJr : Declaration := row .cJr 0x0000F07F 0x00008002 [rs1Cr] 2 .common .jump
def cMv : Declaration := row .cMv 0x0000F003 0x00008002 [rd, rs2Cr] 2 .common .seq
def cEbreak : Declaration := row .cEbreak 0x0000FFFF 0x00009002 [] 2 .common .trapBoundary
def cJalr : Declaration := row .cJalr 0x0000F07F 0x00009002 [rs1Cr] 2 .common .jump
def cAdd : Declaration := row .cAdd 0x0000F003 0x00009002 [rd, rs2Cr] 2 .common .seq
def cSwsp : Declaration := row .cSwsp 0x0000E003 0x0000C002 [rs2Cr, uimmSwsp] 2 .common .seq
def cSdsp : Declaration := row .cSdsp 0x0000E003 0x0000E002 [rs2Cr, uimmSdsp] 2 .rv64 .seq

/-- The RV32I rows. -/
def rv32iRows : List Declaration :=
  [lui, auipc, jal, jalr, beq, bne, blt, bge, bltu, bgeu] ++
  [lb, lh, lw, lbu, lhu, sb, sh, sw, addi, slti] ++
  [sltiu, xori, ori, andi, slli32, srli32, srai32, add, sub, sll] ++
  [slt, sltu, xor, srl, sra, or, and, fence, ecall, ebreak]
/-- The RV64I rows. -/
def rv64iRows : List Declaration :=
  [slli64, srli64, srai64, lwu, ld, sd, addiw, slliw, srliw, sraiw] ++
  [addw, subw, sllw, srlw, sraw]
/-- The Zifencei rows. -/
def zifenceiRows : List Declaration :=
  [fenceI]
/-- The Zicsr rows. -/
def zicsrRows : List Declaration :=
  [csrrw, csrrs, csrrc, csrrwi, csrrsi, csrrci]
/-- The Privileged rows. -/
def privilegedRows : List Declaration :=
  [sret, mret, wfi, sfenceVma]
/-- The M rows. -/
def mulRows : List Declaration :=
  [mul, mulh, mulhsu, mulhu, div, divu, rem, remu, mulw, divw] ++
  [divuw, remw, remuw]
/-- The C rows. -/
def compressedRows : List Declaration :=
  [illegalCAddi4spnZ, cAddi4spn, cLw, cLd, cSw, cSd, cNop, cAddi, cJal, illegalCAddiwRd0] ++
  [cAddiw, cLi, illegalCAddi16spZ, cAddi16sp, illegalCLuiZ, cLui, cSrli32, cSrai32, cSrli64, cSrai64] ++
  [cAndi, cSub, cXor, cOr, cAnd, cSubw, cAddw, cJ, cBeqz, cBnez] ++
  [cSlli32, cSlli64, illegalCLwspRd0, cLwsp, illegalCLdspRd0, cLdsp, illegalCJrRs1z, cJr, cMv, cEbreak] ++
  [cJalr, cAdd, cSwsp, cSdsp]

end Ref

/-- `REF_DECLS`: the 123 rows. -/
def refDecls : List Declaration :=
  Ref.rv32iRows ++ Ref.rv64iRows ++ Ref.zifenceiRows ++ Ref.zicsrRows ++ Ref.privilegedRows ++ Ref.mulRows ++ Ref.compressedRows

/-- The reference declaration of a mnemonic in a variant. -/
def refDecl (m : Mnemonic) (v : Variant) : Option Declaration :=
  match m with
  | .lui => some Ref.lui
  | .auipc => some Ref.auipc
  | .jal => some Ref.jal
  | .jalr => some Ref.jalr
  | .beq => some Ref.beq
  | .bne => some Ref.bne
  | .blt => some Ref.blt
  | .bge => some Ref.bge
  | .bltu => some Ref.bltu
  | .bgeu => some Ref.bgeu
  | .lb => some Ref.lb
  | .lh => some Ref.lh
  | .lw => some Ref.lw
  | .lbu => some Ref.lbu
  | .lhu => some Ref.lhu
  | .sb => some Ref.sb
  | .sh => some Ref.sh
  | .sw => some Ref.sw
  | .addi => some Ref.addi
  | .slti => some Ref.slti
  | .sltiu => some Ref.sltiu
  | .xori => some Ref.xori
  | .ori => some Ref.ori
  | .andi => some Ref.andi
  | .slli => some (if v = .rv32 then Ref.slli32 else Ref.slli64)
  | .srli => some (if v = .rv32 then Ref.srli32 else Ref.srli64)
  | .srai => some (if v = .rv32 then Ref.srai32 else Ref.srai64)
  | .add => some Ref.add
  | .sub => some Ref.sub
  | .sll => some Ref.sll
  | .slt => some Ref.slt
  | .sltu => some Ref.sltu
  | .xor => some Ref.xor
  | .srl => some Ref.srl
  | .sra => some Ref.sra
  | .or => some Ref.or
  | .and => some Ref.and
  | .fence => some Ref.fence
  | .ecall => some Ref.ecall
  | .ebreak => some Ref.ebreak
  | .lwu => some Ref.lwu
  | .ld => some Ref.ld
  | .sd => some Ref.sd
  | .addiw => some Ref.addiw
  | .slliw => some Ref.slliw
  | .srliw => some Ref.srliw
  | .sraiw => some Ref.sraiw
  | .addw => some Ref.addw
  | .subw => some Ref.subw
  | .sllw => some Ref.sllw
  | .srlw => some Ref.srlw
  | .sraw => some Ref.sraw
  | .fenceI => some Ref.fenceI
  | .csrrw => some Ref.csrrw
  | .csrrs => some Ref.csrrs
  | .csrrc => some Ref.csrrc
  | .csrrwi => some Ref.csrrwi
  | .csrrsi => some Ref.csrrsi
  | .csrrci => some Ref.csrrci
  | .sret => some Ref.sret
  | .mret => some Ref.mret
  | .wfi => some Ref.wfi
  | .sfenceVma => some Ref.sfenceVma
  | .mul => some Ref.mul
  | .mulh => some Ref.mulh
  | .mulhsu => some Ref.mulhsu
  | .mulhu => some Ref.mulhu
  | .div => some Ref.div
  | .divu => some Ref.divu
  | .rem => some Ref.rem
  | .remu => some Ref.remu
  | .mulw => some Ref.mulw
  | .divw => some Ref.divw
  | .divuw => some Ref.divuw
  | .remw => some Ref.remw
  | .remuw => some Ref.remuw
  | .illegalCAddi4spnZ => some Ref.illegalCAddi4spnZ
  | .cAddi4spn => some Ref.cAddi4spn
  | .cLw => some Ref.cLw
  | .cLd => some Ref.cLd
  | .cSw => some Ref.cSw
  | .cSd => some Ref.cSd
  | .cNop => some Ref.cNop
  | .cAddi => some Ref.cAddi
  | .cJal => some Ref.cJal
  | .illegalCAddiwRd0 => some Ref.illegalCAddiwRd0
  | .cAddiw => some Ref.cAddiw
  | .cLi => some Ref.cLi
  | .illegalCAddi16spZ => some Ref.illegalCAddi16spZ
  | .cAddi16sp => some Ref.cAddi16sp
  | .illegalCLuiZ => some Ref.illegalCLuiZ
  | .cLui => some Ref.cLui
  | .cSrli => some (if v = .rv32 then Ref.cSrli32 else Ref.cSrli64)
  | .cSrai => some (if v = .rv32 then Ref.cSrai32 else Ref.cSrai64)
  | .cAndi => some Ref.cAndi
  | .cSub => some Ref.cSub
  | .cXor => some Ref.cXor
  | .cOr => some Ref.cOr
  | .cAnd => some Ref.cAnd
  | .cSubw => some Ref.cSubw
  | .cAddw => some Ref.cAddw
  | .cJ => some Ref.cJ
  | .cBeqz => some Ref.cBeqz
  | .cBnez => some Ref.cBnez
  | .cSlli => some (if v = .rv32 then Ref.cSlli32 else Ref.cSlli64)
  | .illegalCLwspRd0 => some Ref.illegalCLwspRd0
  | .cLwsp => some Ref.cLwsp
  | .illegalCLdspRd0 => some Ref.illegalCLdspRd0
  | .cLdsp => some Ref.cLdsp
  | .illegalCJrRs1z => some Ref.illegalCJrRs1z
  | .cJr => some Ref.cJr
  | .cMv => some Ref.cMv
  | .cEbreak => some Ref.cEbreak
  | .cJalr => some Ref.cJalr
  | .cAdd => some Ref.cAdd
  | .cSwsp => some Ref.cSwsp
  | .cSdsp => some Ref.cSdsp
  | .other _ => none

/-- The mnemonics whose reference handler asks for `pc0` (44_dispatch_loop.md R152). -/
def needsPcList : List Mnemonic :=
  [.auipc, .jal, .jalr, .beq, .bne, .blt, .bge, .bltu, .bgeu, .cJal, .cJ, .cBeqz, .cBnez, .cJalr]

/-- The mnemonics whose reference handler asks for the width (R152). -/
def needsWidthList : List Mnemonic := [.jal, .jalr, .cJal, .cJalr]

/-- The mnemonics of the REGULAR rows, each once: those that need a handler (45_host_operations.md R170). -/
def refMnemonics : List Mnemonic :=
  ([.lui, .auipc, .jal, .jalr, .beq, .bne, .blt, .bge, .bltu, .bgeu, .lb, .lh] : List Mnemonic) ++
  ([.lw, .lbu, .lhu, .sb, .sh, .sw, .addi, .slti, .sltiu, .xori, .ori, .andi] : List Mnemonic) ++
  ([.slli, .srli, .srai, .add, .sub, .sll, .slt, .sltu, .xor, .srl, .sra, .or] : List Mnemonic) ++
  ([.and, .fence, .ecall, .ebreak, .lwu, .ld, .sd, .addiw, .slliw, .srliw, .sraiw, .addw] : List Mnemonic) ++
  ([.subw, .sllw, .srlw, .sraw, .fenceI, .csrrw, .csrrs, .csrrc, .csrrwi, .csrrsi, .csrrci, .sret] : List Mnemonic) ++
  ([.mret, .wfi, .sfenceVma, .mul, .mulh, .mulhsu, .mulhu, .div, .divu, .rem, .remu, .mulw] : List Mnemonic) ++
  ([.divw, .divuw, .remw, .remuw, .cAddi4spn, .cLw, .cLd, .cSw, .cSd, .cAddi, .cJal, .cAddiw] : List Mnemonic) ++
  ([.cLi, .cAddi16sp, .cLui, .cSrli, .cSrai, .cAndi, .cSub, .cXor, .cOr, .cAnd, .cSubw, .cAddw] : List Mnemonic) ++
  ([.cJ, .cBeqz, .cBnez, .cSlli, .cLwsp, .cLdsp, .cJr, .cMv, .cEbreak, .cJalr, .cAdd, .cSwsp] : List Mnemonic) ++
  ([.cSdsp] : List Mnemonic)

/-- The reference binding of a mnemonic (10_state.md R14). -/
def refBinding (m : Mnemonic) : Binding := ⟨m, m, needsWidthList.contains m, needsPcList.contains m⟩

/-! ## Instructions and declarations -/

namespace Instr

/-- The declaration of an instruction. -/
def decl : Instr → Declaration
  | .lui _ _ => Ref.lui
  | .auipc _ _ => Ref.auipc
  | .jal _ _ => Ref.jal
  | .jalr _ _ _ => Ref.jalr
  | .beq _ _ _ => Ref.beq
  | .bne _ _ _ => Ref.bne
  | .blt _ _ _ => Ref.blt
  | .bge _ _ _ => Ref.bge
  | .bltu _ _ _ => Ref.bltu
  | .bgeu _ _ _ => Ref.bgeu
  | .lb _ _ _ => Ref.lb
  | .lh _ _ _ => Ref.lh
  | .lw _ _ _ => Ref.lw
  | .lbu _ _ _ => Ref.lbu
  | .lhu _ _ _ => Ref.lhu
  | .sb _ _ _ => Ref.sb
  | .sh _ _ _ => Ref.sh
  | .sw _ _ _ => Ref.sw
  | .addi _ _ _ => Ref.addi
  | .slti _ _ _ => Ref.slti
  | .sltiu _ _ _ => Ref.sltiu
  | .xori _ _ _ => Ref.xori
  | .ori _ _ _ => Ref.ori
  | .andi _ _ _ => Ref.andi
  | .slli32 _ _ _ => Ref.slli32
  | .srli32 _ _ _ => Ref.srli32
  | .srai32 _ _ _ => Ref.srai32
  | .slli64 _ _ _ => Ref.slli64
  | .srli64 _ _ _ => Ref.srli64
  | .srai64 _ _ _ => Ref.srai64
  | .add _ _ _ => Ref.add
  | .sub _ _ _ => Ref.sub
  | .sll _ _ _ => Ref.sll
  | .slt _ _ _ => Ref.slt
  | .sltu _ _ _ => Ref.sltu
  | .xor _ _ _ => Ref.xor
  | .srl _ _ _ => Ref.srl
  | .sra _ _ _ => Ref.sra
  | .or _ _ _ => Ref.or
  | .and _ _ _ => Ref.and
  | .fence => Ref.fence
  | .ecall => Ref.ecall
  | .ebreak => Ref.ebreak
  | .lwu _ _ _ => Ref.lwu
  | .ld _ _ _ => Ref.ld
  | .sd _ _ _ => Ref.sd
  | .addiw _ _ _ => Ref.addiw
  | .slliw _ _ _ => Ref.slliw
  | .srliw _ _ _ => Ref.srliw
  | .sraiw _ _ _ => Ref.sraiw
  | .addw _ _ _ => Ref.addw
  | .subw _ _ _ => Ref.subw
  | .sllw _ _ _ => Ref.sllw
  | .srlw _ _ _ => Ref.srlw
  | .sraw _ _ _ => Ref.sraw
  | .fenceI => Ref.fenceI
  | .csrrw _ _ _ => Ref.csrrw
  | .csrrs _ _ _ => Ref.csrrs
  | .csrrc _ _ _ => Ref.csrrc
  | .csrrwi _ _ _ => Ref.csrrwi
  | .csrrsi _ _ _ => Ref.csrrsi
  | .csrrci _ _ _ => Ref.csrrci
  | .sret => Ref.sret
  | .mret => Ref.mret
  | .wfi => Ref.wfi
  | .sfenceVma _ _ => Ref.sfenceVma
  | .mul _ _ _ => Ref.mul
  | .mulh _ _ _ => Ref.mulh
  | .mulhsu _ _ _ => Ref.mulhsu
  | .mulhu _ _ _ => Ref.mulhu
  | .div _ _ _ => Ref.div
  | .divu _ _ _ => Ref.divu
  | .rem _ _ _ => Ref.rem
  | .remu _ _ _ => Ref.remu
  | .mulw _ _ _ => Ref.mulw
  | .divw _ _ _ => Ref.divw
  | .divuw _ _ _ => Ref.divuw
  | .remw _ _ _ => Ref.remw
  | .remuw _ _ _ => Ref.remuw
  | .illegalCAddi4spnZ => Ref.illegalCAddi4spnZ
  | .cAddi4spn _ _ => Ref.cAddi4spn
  | .cLw _ _ _ => Ref.cLw
  | .cLd _ _ _ => Ref.cLd
  | .cSw _ _ _ => Ref.cSw
  | .cSd _ _ _ => Ref.cSd
  | .cNop => Ref.cNop
  | .cAddi _ _ => Ref.cAddi
  | .cJal _ => Ref.cJal
  | .illegalCAddiwRd0 => Ref.illegalCAddiwRd0
  | .cAddiw _ _ => Ref.cAddiw
  | .cLi _ _ => Ref.cLi
  | .illegalCAddi16spZ => Ref.illegalCAddi16spZ
  | .cAddi16sp _ => Ref.cAddi16sp
  | .illegalCLuiZ => Ref.illegalCLuiZ
  | .cLui _ _ => Ref.cLui
  | .cSrli32 _ _ => Ref.cSrli32
  | .cSrai32 _ _ => Ref.cSrai32
  | .cSrli64 _ _ => Ref.cSrli64
  | .cSrai64 _ _ => Ref.cSrai64
  | .cAndi _ _ => Ref.cAndi
  | .cSub _ _ => Ref.cSub
  | .cXor _ _ => Ref.cXor
  | .cOr _ _ => Ref.cOr
  | .cAnd _ _ => Ref.cAnd
  | .cSubw _ _ => Ref.cSubw
  | .cAddw _ _ => Ref.cAddw
  | .cJ _ => Ref.cJ
  | .cBeqz _ _ => Ref.cBeqz
  | .cBnez _ _ => Ref.cBnez
  | .cSlli32 _ _ => Ref.cSlli32
  | .cSlli64 _ _ => Ref.cSlli64
  | .illegalCLwspRd0 => Ref.illegalCLwspRd0
  | .cLwsp _ _ => Ref.cLwsp
  | .illegalCLdspRd0 => Ref.illegalCLdspRd0
  | .cLdsp _ _ => Ref.cLdsp
  | .illegalCJrRs1z => Ref.illegalCJrRs1z
  | .cJr _ => Ref.cJr
  | .cMv _ _ => Ref.cMv
  | .cEbreak => Ref.cEbreak
  | .cJalr _ => Ref.cJalr
  | .cAdd _ _ => Ref.cAdd
  | .cSwsp _ _ => Ref.cSwsp
  | .cSdsp _ _ => Ref.cSdsp

/-- A signed operand as an `i64` value. -/
def sval {n : Nat} (v : BitVec n) : Word := v.signExtend 64

/-- An unsigned operand as an `i64` value. -/
def uval {n : Nat} (v : BitVec n) : Word := v.setWidth 64

/-- The declared operand values, in field order (R57). -/
def args : Instr → List Word
  | .lui rd imm => [uval rd, sval imm]
  | .auipc rd imm => [uval rd, sval imm]
  | .jal rd imm => [uval rd, sval imm]
  | .jalr rd rs1 imm => [uval rd, uval rs1, sval imm]
  | .beq rs1 rs2 imm => [uval rs1, uval rs2, sval imm]
  | .bne rs1 rs2 imm => [uval rs1, uval rs2, sval imm]
  | .blt rs1 rs2 imm => [uval rs1, uval rs2, sval imm]
  | .bge rs1 rs2 imm => [uval rs1, uval rs2, sval imm]
  | .bltu rs1 rs2 imm => [uval rs1, uval rs2, sval imm]
  | .bgeu rs1 rs2 imm => [uval rs1, uval rs2, sval imm]
  | .lb rd rs1 imm => [uval rd, uval rs1, sval imm]
  | .lh rd rs1 imm => [uval rd, uval rs1, sval imm]
  | .lw rd rs1 imm => [uval rd, uval rs1, sval imm]
  | .lbu rd rs1 imm => [uval rd, uval rs1, sval imm]
  | .lhu rd rs1 imm => [uval rd, uval rs1, sval imm]
  | .sb rs1 rs2 imm => [uval rs1, uval rs2, sval imm]
  | .sh rs1 rs2 imm => [uval rs1, uval rs2, sval imm]
  | .sw rs1 rs2 imm => [uval rs1, uval rs2, sval imm]
  | .addi rd rs1 imm => [uval rd, uval rs1, sval imm]
  | .slti rd rs1 imm => [uval rd, uval rs1, sval imm]
  | .sltiu rd rs1 imm => [uval rd, uval rs1, sval imm]
  | .xori rd rs1 imm => [uval rd, uval rs1, sval imm]
  | .ori rd rs1 imm => [uval rd, uval rs1, sval imm]
  | .andi rd rs1 imm => [uval rd, uval rs1, sval imm]
  | .slli32 rd rs1 shamt => [uval rd, uval rs1, uval shamt]
  | .srli32 rd rs1 shamt => [uval rd, uval rs1, uval shamt]
  | .srai32 rd rs1 shamt => [uval rd, uval rs1, uval shamt]
  | .slli64 rd rs1 shamt => [uval rd, uval rs1, uval shamt]
  | .srli64 rd rs1 shamt => [uval rd, uval rs1, uval shamt]
  | .srai64 rd rs1 shamt => [uval rd, uval rs1, uval shamt]
  | .add rd rs1 rs2 => [uval rd, uval rs1, uval rs2]
  | .sub rd rs1 rs2 => [uval rd, uval rs1, uval rs2]
  | .sll rd rs1 rs2 => [uval rd, uval rs1, uval rs2]
  | .slt rd rs1 rs2 => [uval rd, uval rs1, uval rs2]
  | .sltu rd rs1 rs2 => [uval rd, uval rs1, uval rs2]
  | .xor rd rs1 rs2 => [uval rd, uval rs1, uval rs2]
  | .srl rd rs1 rs2 => [uval rd, uval rs1, uval rs2]
  | .sra rd rs1 rs2 => [uval rd, uval rs1, uval rs2]
  | .or rd rs1 rs2 => [uval rd, uval rs1, uval rs2]
  | .and rd rs1 rs2 => [uval rd, uval rs1, uval rs2]
  | .fence => []
  | .ecall => []
  | .ebreak => []
  | .lwu rd rs1 imm => [uval rd, uval rs1, sval imm]
  | .ld rd rs1 imm => [uval rd, uval rs1, sval imm]
  | .sd rs1 rs2 imm => [uval rs1, uval rs2, sval imm]
  | .addiw rd rs1 imm => [uval rd, uval rs1, sval imm]
  | .slliw rd rs1 shamt => [uval rd, uval rs1, uval shamt]
  | .srliw rd rs1 shamt => [uval rd, uval rs1, uval shamt]
  | .sraiw rd rs1 shamt => [uval rd, uval rs1, uval shamt]
  | .addw rd rs1 rs2 => [uval rd, uval rs1, uval rs2]
  | .subw rd rs1 rs2 => [uval rd, uval rs1, uval rs2]
  | .sllw rd rs1 rs2 => [uval rd, uval rs1, uval rs2]
  | .srlw rd rs1 rs2 => [uval rd, uval rs1, uval rs2]
  | .sraw rd rs1 rs2 => [uval rd, uval rs1, uval rs2]
  | .fenceI => []
  | .csrrw rd rs1 csr => [uval rd, uval rs1, uval csr]
  | .csrrs rd rs1 csr => [uval rd, uval rs1, uval csr]
  | .csrrc rd rs1 csr => [uval rd, uval rs1, uval csr]
  | .csrrwi rd uimm csr => [uval rd, uval uimm, uval csr]
  | .csrrsi rd uimm csr => [uval rd, uval uimm, uval csr]
  | .csrrci rd uimm csr => [uval rd, uval uimm, uval csr]
  | .sret => []
  | .mret => []
  | .wfi => []
  | .sfenceVma rs1 rs2 => [uval rs1, uval rs2]
  | .mul rd rs1 rs2 => [uval rd, uval rs1, uval rs2]
  | .mulh rd rs1 rs2 => [uval rd, uval rs1, uval rs2]
  | .mulhsu rd rs1 rs2 => [uval rd, uval rs1, uval rs2]
  | .mulhu rd rs1 rs2 => [uval rd, uval rs1, uval rs2]
  | .div rd rs1 rs2 => [uval rd, uval rs1, uval rs2]
  | .divu rd rs1 rs2 => [uval rd, uval rs1, uval rs2]
  | .rem rd rs1 rs2 => [uval rd, uval rs1, uval rs2]
  | .remu rd rs1 rs2 => [uval rd, uval rs1, uval rs2]
  | .mulw rd rs1 rs2 => [uval rd, uval rs1, uval rs2]
  | .divw rd rs1 rs2 => [uval rd, uval rs1, uval rs2]
  | .divuw rd rs1 rs2 => [uval rd, uval rs1, uval rs2]
  | .remw rd rs1 rs2 => [uval rd, uval rs1, uval rs2]
  | .remuw rd rs1 rs2 => [uval rd, uval rs1, uval rs2]
  | .illegalCAddi4spnZ => []
  | .cAddi4spn rdP nzuimm => [uval rdP, uval nzuimm]
  | .cLw rdP rs1P uimm => [uval rdP, uval rs1P, uval uimm]
  | .cLd rdP rs1P uimm => [uval rdP, uval rs1P, uval uimm]
  | .cSw rs1P rs2P uimm => [uval rs1P, uval rs2P, uval uimm]
  | .cSd rs1P rs2P uimm => [uval rs1P, uval rs2P, uval uimm]
  | .cNop => []
  | .cAddi rd imm => [uval rd, sval imm]
  | .cJal imm => [sval imm]
  | .illegalCAddiwRd0 => []
  | .cAddiw rd imm => [uval rd, sval imm]
  | .cLi rd imm => [uval rd, sval imm]
  | .illegalCAddi16spZ => []
  | .cAddi16sp nzimm => [sval nzimm]
  | .illegalCLuiZ => []
  | .cLui rd nzimm => [uval rd, sval nzimm]
  | .cSrli32 rdP shamt => [uval rdP, uval shamt]
  | .cSrai32 rdP shamt => [uval rdP, uval shamt]
  | .cSrli64 rdP shamt => [uval rdP, uval shamt]
  | .cSrai64 rdP shamt => [uval rdP, uval shamt]
  | .cAndi rdP imm => [uval rdP, sval imm]
  | .cSub rdP rs2P => [uval rdP, uval rs2P]
  | .cXor rdP rs2P => [uval rdP, uval rs2P]
  | .cOr rdP rs2P => [uval rdP, uval rs2P]
  | .cAnd rdP rs2P => [uval rdP, uval rs2P]
  | .cSubw rdP rs2P => [uval rdP, uval rs2P]
  | .cAddw rdP rs2P => [uval rdP, uval rs2P]
  | .cJ imm => [sval imm]
  | .cBeqz rs1P imm => [uval rs1P, sval imm]
  | .cBnez rs1P imm => [uval rs1P, sval imm]
  | .cSlli32 rd shamt => [uval rd, uval shamt]
  | .cSlli64 rd shamt => [uval rd, uval shamt]
  | .illegalCLwspRd0 => []
  | .cLwsp rd uimm => [uval rd, uval uimm]
  | .illegalCLdspRd0 => []
  | .cLdsp rd uimm => [uval rd, uval uimm]
  | .illegalCJrRs1z => []
  | .cJr rs1 => [uval rs1]
  | .cMv rd rs2 => [uval rd, uval rs2]
  | .cEbreak => []
  | .cJalr rs1 => [uval rs1]
  | .cAdd rd rs2 => [uval rd, uval rs2]
  | .cSwsp rs2 uimm => [uval rs2, uval uimm]
  | .cSdsp rs2 uimm => [uval rs2, uval uimm]

/-- The `k`-th operand value, as an operand of `n` bits. -/
def arg (a : List Word) (k n : Nat) : BitVec n := (a.getD k 0).setWidth n

/-- The instruction of a mnemonic with the operand values `a` (an `InstructionApplication`, R57). -/
def ofApplication (m : Mnemonic) (v : Variant) (a : List Word) : Option Instr :=
  match m with
  | .lui => some (.lui (arg a 0 5) (arg a 1 32))
  | .auipc => some (.auipc (arg a 0 5) (arg a 1 32))
  | .jal => some (.jal (arg a 0 5) (arg a 1 21))
  | .jalr => some (.jalr (arg a 0 5) (arg a 1 5) (arg a 2 12))
  | .beq => some (.beq (arg a 0 5) (arg a 1 5) (arg a 2 13))
  | .bne => some (.bne (arg a 0 5) (arg a 1 5) (arg a 2 13))
  | .blt => some (.blt (arg a 0 5) (arg a 1 5) (arg a 2 13))
  | .bge => some (.bge (arg a 0 5) (arg a 1 5) (arg a 2 13))
  | .bltu => some (.bltu (arg a 0 5) (arg a 1 5) (arg a 2 13))
  | .bgeu => some (.bgeu (arg a 0 5) (arg a 1 5) (arg a 2 13))
  | .lb => some (.lb (arg a 0 5) (arg a 1 5) (arg a 2 12))
  | .lh => some (.lh (arg a 0 5) (arg a 1 5) (arg a 2 12))
  | .lw => some (.lw (arg a 0 5) (arg a 1 5) (arg a 2 12))
  | .lbu => some (.lbu (arg a 0 5) (arg a 1 5) (arg a 2 12))
  | .lhu => some (.lhu (arg a 0 5) (arg a 1 5) (arg a 2 12))
  | .sb => some (.sb (arg a 0 5) (arg a 1 5) (arg a 2 12))
  | .sh => some (.sh (arg a 0 5) (arg a 1 5) (arg a 2 12))
  | .sw => some (.sw (arg a 0 5) (arg a 1 5) (arg a 2 12))
  | .addi => some (.addi (arg a 0 5) (arg a 1 5) (arg a 2 12))
  | .slti => some (.slti (arg a 0 5) (arg a 1 5) (arg a 2 12))
  | .sltiu => some (.sltiu (arg a 0 5) (arg a 1 5) (arg a 2 12))
  | .xori => some (.xori (arg a 0 5) (arg a 1 5) (arg a 2 12))
  | .ori => some (.ori (arg a 0 5) (arg a 1 5) (arg a 2 12))
  | .andi => some (.andi (arg a 0 5) (arg a 1 5) (arg a 2 12))
  | .slli => some (if v = .rv32 then .slli32 (arg a 0 5) (arg a 1 5) (arg a 2 5) else .slli64 (arg a 0 5) (arg a 1 5) (arg a 2 6))
  | .srli => some (if v = .rv32 then .srli32 (arg a 0 5) (arg a 1 5) (arg a 2 5) else .srli64 (arg a 0 5) (arg a 1 5) (arg a 2 6))
  | .srai => some (if v = .rv32 then .srai32 (arg a 0 5) (arg a 1 5) (arg a 2 5) else .srai64 (arg a 0 5) (arg a 1 5) (arg a 2 6))
  | .add => some (.add (arg a 0 5) (arg a 1 5) (arg a 2 5))
  | .sub => some (.sub (arg a 0 5) (arg a 1 5) (arg a 2 5))
  | .sll => some (.sll (arg a 0 5) (arg a 1 5) (arg a 2 5))
  | .slt => some (.slt (arg a 0 5) (arg a 1 5) (arg a 2 5))
  | .sltu => some (.sltu (arg a 0 5) (arg a 1 5) (arg a 2 5))
  | .xor => some (.xor (arg a 0 5) (arg a 1 5) (arg a 2 5))
  | .srl => some (.srl (arg a 0 5) (arg a 1 5) (arg a 2 5))
  | .sra => some (.sra (arg a 0 5) (arg a 1 5) (arg a 2 5))
  | .or => some (.or (arg a 0 5) (arg a 1 5) (arg a 2 5))
  | .and => some (.and (arg a 0 5) (arg a 1 5) (arg a 2 5))
  | .fence => some .fence
  | .ecall => some .ecall
  | .ebreak => some .ebreak
  | .lwu => some (.lwu (arg a 0 5) (arg a 1 5) (arg a 2 12))
  | .ld => some (.ld (arg a 0 5) (arg a 1 5) (arg a 2 12))
  | .sd => some (.sd (arg a 0 5) (arg a 1 5) (arg a 2 12))
  | .addiw => some (.addiw (arg a 0 5) (arg a 1 5) (arg a 2 12))
  | .slliw => some (.slliw (arg a 0 5) (arg a 1 5) (arg a 2 5))
  | .srliw => some (.srliw (arg a 0 5) (arg a 1 5) (arg a 2 5))
  | .sraiw => some (.sraiw (arg a 0 5) (arg a 1 5) (arg a 2 5))
  | .addw => some (.addw (arg a 0 5) (arg a 1 5) (arg a 2 5))
  | .subw => some (.subw (arg a 0 5) (arg a 1 5) (arg a 2 5))
  | .sllw => some (.sllw (arg a 0 5) (arg a 1 5) (arg a 2 5))
  | .srlw => some (.srlw (arg a 0 5) (arg a 1 5) (arg a 2 5))
  | .sraw => some (.sraw (arg a 0 5) (arg a 1 5) (arg a 2 5))
  | .fenceI => some .fenceI
  | .csrrw => some (.csrrw (arg a 0 5) (arg a 1 5) (arg a 2 12))
  | .csrrs => some (.csrrs (arg a 0 5) (arg a 1 5) (arg a 2 12))
  | .csrrc => some (.csrrc (arg a 0 5) (arg a 1 5) (arg a 2 12))
  | .csrrwi => some (.csrrwi (arg a 0 5) (arg a 1 5) (arg a 2 12))
  | .csrrsi => some (.csrrsi (arg a 0 5) (arg a 1 5) (arg a 2 12))
  | .csrrci => some (.csrrci (arg a 0 5) (arg a 1 5) (arg a 2 12))
  | .sret => some .sret
  | .mret => some .mret
  | .wfi => some .wfi
  | .sfenceVma => some (.sfenceVma (arg a 0 5) (arg a 1 5))
  | .mul => some (.mul (arg a 0 5) (arg a 1 5) (arg a 2 5))
  | .mulh => some (.mulh (arg a 0 5) (arg a 1 5) (arg a 2 5))
  | .mulhsu => some (.mulhsu (arg a 0 5) (arg a 1 5) (arg a 2 5))
  | .mulhu => some (.mulhu (arg a 0 5) (arg a 1 5) (arg a 2 5))
  | .div => some (.div (arg a 0 5) (arg a 1 5) (arg a 2 5))
  | .divu => some (.divu (arg a 0 5) (arg a 1 5) (arg a 2 5))
  | .rem => some (.rem (arg a 0 5) (arg a 1 5) (arg a 2 5))
  | .remu => some (.remu (arg a 0 5) (arg a 1 5) (arg a 2 5))
  | .mulw => some (.mulw (arg a 0 5) (arg a 1 5) (arg a 2 5))
  | .divw => some (.divw (arg a 0 5) (arg a 1 5) (arg a 2 5))
  | .divuw => some (.divuw (arg a 0 5) (arg a 1 5) (arg a 2 5))
  | .remw => some (.remw (arg a 0 5) (arg a 1 5) (arg a 2 5))
  | .remuw => some (.remuw (arg a 0 5) (arg a 1 5) (arg a 2 5))
  | .illegalCAddi4spnZ => some .illegalCAddi4spnZ
  | .cAddi4spn => some (.cAddi4spn (arg a 0 3) (arg a 1 10))
  | .cLw => some (.cLw (arg a 0 3) (arg a 1 3) (arg a 2 7))
  | .cLd => some (.cLd (arg a 0 3) (arg a 1 3) (arg a 2 8))
  | .cSw => some (.cSw (arg a 0 3) (arg a 1 3) (arg a 2 7))
  | .cSd => some (.cSd (arg a 0 3) (arg a 1 3) (arg a 2 8))
  | .cNop => some .cNop
  | .cAddi => some (.cAddi (arg a 0 5) (arg a 1 6))
  | .cJal => some (.cJal (arg a 0 12))
  | .illegalCAddiwRd0 => some .illegalCAddiwRd0
  | .cAddiw => some (.cAddiw (arg a 0 5) (arg a 1 6))
  | .cLi => some (.cLi (arg a 0 5) (arg a 1 6))
  | .illegalCAddi16spZ => some .illegalCAddi16spZ
  | .cAddi16sp => some (.cAddi16sp (arg a 0 10))
  | .illegalCLuiZ => some .illegalCLuiZ
  | .cLui => some (.cLui (arg a 0 5) (arg a 1 18))
  | .cSrli => some (if v = .rv32 then .cSrli32 (arg a 0 3) (arg a 1 5) else .cSrli64 (arg a 0 3) (arg a 1 6))
  | .cSrai => some (if v = .rv32 then .cSrai32 (arg a 0 3) (arg a 1 5) else .cSrai64 (arg a 0 3) (arg a 1 6))
  | .cAndi => some (.cAndi (arg a 0 3) (arg a 1 6))
  | .cSub => some (.cSub (arg a 0 3) (arg a 1 3))
  | .cXor => some (.cXor (arg a 0 3) (arg a 1 3))
  | .cOr => some (.cOr (arg a 0 3) (arg a 1 3))
  | .cAnd => some (.cAnd (arg a 0 3) (arg a 1 3))
  | .cSubw => some (.cSubw (arg a 0 3) (arg a 1 3))
  | .cAddw => some (.cAddw (arg a 0 3) (arg a 1 3))
  | .cJ => some (.cJ (arg a 0 12))
  | .cBeqz => some (.cBeqz (arg a 0 3) (arg a 1 9))
  | .cBnez => some (.cBnez (arg a 0 3) (arg a 1 9))
  | .cSlli => some (if v = .rv32 then .cSlli32 (arg a 0 5) (arg a 1 5) else .cSlli64 (arg a 0 5) (arg a 1 6))
  | .illegalCLwspRd0 => some .illegalCLwspRd0
  | .cLwsp => some (.cLwsp (arg a 0 5) (arg a 1 8))
  | .illegalCLdspRd0 => some .illegalCLdspRd0
  | .cLdsp => some (.cLdsp (arg a 0 5) (arg a 1 9))
  | .illegalCJrRs1z => some .illegalCJrRs1z
  | .cJr => some (.cJr (arg a 0 5))
  | .cMv => some (.cMv (arg a 0 5) (arg a 1 5))
  | .cEbreak => some .cEbreak
  | .cJalr => some (.cJalr (arg a 0 5))
  | .cAdd => some (.cAdd (arg a 0 5) (arg a 1 5))
  | .cSwsp => some (.cSwsp (arg a 0 5) (arg a 1 8))
  | .cSdsp => some (.cSdsp (arg a 0 5) (arg a 1 9))
  | .other _ => none

/-- The instruction that a reference declaration makes of an opcode word; none for a declaration that is no row of the
table (log 22). -/
def ofDecl (d : Declaration) (w : Opcode) : Option Instr :=
  if refDecl d.mnemonic d.variant = some d then ofApplication d.mnemonic d.variant (apply d w) else none

end Instr

/-! ## Decoding bytes (20_memory.md R32, 30_encoding.md R50, R51) -/

/-- Why a byte sequence decodes to no instruction: it ends inside an instruction, or no declaration matches (R62). -/
inductive DecodeReject where
  | truncated
  | noDeclaration
deriving DecidableEq, Repr

/-- A half-word from its two bytes, the lower address first (R32). -/
def halfOf (b0 b1 : Byte) : Half := b1 ++ b0

/-- The length rule: low two bits 0b11 mean a 4-byte encoding (R51). -/
def isLong (lo : Half) : Bool := lo &&& 3 == 3

/-- A 2-byte opcode is zero-extended (R50). -/
def shortOpcode (lo : Half) : Opcode := lo.setWidth 32

/-- The first half-word is the low half of a 4-byte opcode (R32). -/
def longOpcode (lo hi : Half) : Opcode := hi ++ lo

/-- The instruction of an opcode word under a register width: the row that wins it, of whatever kind. -/
def decodeWord (x : Xlen) (w : Opcode) : Option Instr :=
  match winner (variantDecls x refDecls) w with
  | none => none
  | some d => Instr.ofDecl d w

/-- `decodeWord` with its rejection named. -/
def decodeOpcode (x : Xlen) (w : Opcode) : Except DecodeReject Instr :=
  match decodeWord x w with
  | none => .error .noDeclaration
  | some i => .ok i

/-- Decode the instruction at the start of a byte sequence; the rest of the sequence comes with it. -/
def decode (x : Xlen) : List Byte → Except DecodeReject (Instr × List Byte)
  | b0 :: b1 :: rest =>
    if isLong (halfOf b0 b1) then
      match rest with
      | b2 :: b3 :: rest' => (decodeOpcode x (longOpcode (halfOf b0 b1) (halfOf b2 b3))).map (·, rest')
      | [_] => .error .truncated
      | [] => .error .truncated
    else (decodeOpcode x (shortOpcode (halfOf b0 b1))).map (·, rest)
  | [_] => .error .truncated
  | [] => .error .truncated

/-- The four bytes that an opcode-table word of `nbits` bits lies in, the bits above `nbits` zero. -/
def tableWordBytes (nbits w : Nat) : List Byte :=
  let v := w % 2 ^ nbits
  [BitVec.ofNat 8 v, BitVec.ofNat 8 (v / 2 ^ 8), BitVec.ofNat 8 (v / 2 ^ 16), BitVec.ofNat 8 (v / 2 ^ 24)]

/-- The instruction read from an opcode-table word, under the width that the machine has after reset (log 24). -/
def decodeTableWord (nbits w : Nat) : Option Instr :=
  match decode .w64 (tableWordBytes nbits w) with
  | .ok (i, _) => some i
  | .error _ => none

/-! ## The encoder -/

/-- The opcode word of a well-formed instruction (R134). For any other one it is the word of the operand bits that have a place
in it; `encodeInstr` refuses that instruction. -/
def encode (i : Instr) : Opcode := encodeWith i.decl i.args

/-- The opcode word of an instruction whose operands are in range, or a refusal (R134, U18). -/
def encodeInstr (i : Instr) : Option Opcode := encodeChecked i.decl i.args

/-- The bytes of an instruction, in ascending address order (R32). -/
def encodeBytes (i : Instr) : List Byte :=
  let w := encode i
  let low := [w.setWidth 8, (w >>> 8).setWidth 8]
  if i.decl.width = 4 then low ++ [(w >>> 16).setWidth 8, (w >>> 24).setWidth 8] else low

end Sys2Proof
end

