-- ==== Sys2Proof/Machine/RefTrees.lean ====
section
/-! DEFINITION. The two decoder trees of the reference set as data: what the canonical builder of 41_tree_builder.md R104
makes of `refDecls` (Sys2Proof/Tests/Slice0.lean checks that `build` gives exactly these; R111 states their sizes, 296 and
355 entries). They are written out so that `decide` reads them without running the builder. -/

namespace Sys2Proof.Machine

/-- The illegal leaf (R109). -/
def treeIllegal : Node := .leaf .illegal

/-- Entries 0 to 23 of the RV32 tree. -/
def refArena32a : List Node :=
  [ treeIllegal,
    .switch 0 2 [2, 21, 130, 186],
    .switch 13 3 [3, 0, 19, 0, 0, 0, 20, 0],
    .branch 5 4 18,
    .branch 6 5 17,
    .branch 7 6 16,
    .branch 8 7 15,
    .branch 9 8 14,
    .branch 10 9 13,
    .branch 11 10 12,
    .branch 12 0 11,
    .leaf (.decl Ref.cAddi4spn),
    .leaf (.decl Ref.cAddi4spn),
    .leaf (.decl Ref.cAddi4spn),
    .leaf (.decl Ref.cAddi4spn),
    .leaf (.decl Ref.cAddi4spn),
    .leaf (.decl Ref.cAddi4spn),
    .leaf (.decl Ref.cAddi4spn),
    .leaf (.decl Ref.cAddi4spn),
    .leaf (.decl Ref.cLw),
    .leaf (.decl Ref.cSw),
    .switch 13 3 [22, 33, 34, 35, 112, 127, 128, 129],
    .branch 7 23 32,
    .branch 8 24 31 ]

/-- Entries 24 to 47 of the RV32 tree. -/
def refArena32b : List Node :=
  [ .branch 9 25 30,
    .branch 10 26 29,
    .branch 11 27 28,
    .leaf (.nop Ref.cNop),
    .leaf (.decl Ref.cAddi),
    .leaf (.decl Ref.cAddi),
    .leaf (.decl Ref.cAddi),
    .leaf (.decl Ref.cAddi),
    .leaf (.decl Ref.cAddi),
    .leaf (.decl Ref.cJal),
    .leaf (.decl Ref.cLi),
    .branch 2 36 101,
    .branch 3 37 90,
    .branch 4 38 79,
    .branch 5 39 68,
    .branch 6 40 57,
    .branch 7 41 55,
    .branch 8 42 44,
    .branch 12 0 43,
    .leaf (.decl Ref.cLui),
    .branch 9 45 53,
    .branch 10 46 51,
    .branch 11 47 49,
    .branch 12 0 48 ]

/-- Entries 48 to 71 of the RV32 tree. -/
def refArena32c : List Node :=
  [ .leaf (.decl Ref.cAddi16sp),
    .branch 12 0 50,
    .leaf (.decl Ref.cLui),
    .branch 12 0 52,
    .leaf (.decl Ref.cLui),
    .branch 12 0 54,
    .leaf (.decl Ref.cLui),
    .branch 12 0 56,
    .leaf (.decl Ref.cLui),
    .branch 7 58 67,
    .branch 8 59 60,
    .leaf (.decl Ref.cLui),
    .branch 9 61 66,
    .branch 10 62 65,
    .branch 11 63 64,
    .leaf (.decl Ref.cAddi16sp),
    .leaf (.decl Ref.cLui),
    .leaf (.decl Ref.cLui),
    .leaf (.decl Ref.cLui),
    .leaf (.decl Ref.cLui),
    .branch 7 69 78,
    .branch 8 70 71,
    .leaf (.decl Ref.cLui),
    .branch 9 72 77 ]

/-- Entries 72 to 95 of the RV32 tree. -/
def refArena32d : List Node :=
  [ .branch 10 73 76,
    .branch 11 74 75,
    .leaf (.decl Ref.cAddi16sp),
    .leaf (.decl Ref.cLui),
    .leaf (.decl Ref.cLui),
    .leaf (.decl Ref.cLui),
    .leaf (.decl Ref.cLui),
    .branch 7 80 89,
    .branch 8 81 82,
    .leaf (.decl Ref.cLui),
    .branch 9 83 88,
    .branch 10 84 87,
    .branch 11 85 86,
    .leaf (.decl Ref.cAddi16sp),
    .leaf (.decl Ref.cLui),
    .leaf (.decl Ref.cLui),
    .leaf (.decl Ref.cLui),
    .leaf (.decl Ref.cLui),
    .branch 7 91 100,
    .branch 8 92 93,
    .leaf (.decl Ref.cLui),
    .branch 9 94 99,
    .branch 10 95 98,
    .branch 11 96 97 ]

/-- Entries 96 to 119 of the RV32 tree. -/
def refArena32e : List Node :=
  [ .leaf (.decl Ref.cAddi16sp),
    .leaf (.decl Ref.cLui),
    .leaf (.decl Ref.cLui),
    .leaf (.decl Ref.cLui),
    .leaf (.decl Ref.cLui),
    .branch 7 102 111,
    .branch 8 103 104,
    .leaf (.decl Ref.cLui),
    .branch 9 105 110,
    .branch 10 106 109,
    .branch 11 107 108,
    .leaf (.decl Ref.cAddi16sp),
    .leaf (.decl Ref.cLui),
    .leaf (.decl Ref.cLui),
    .leaf (.decl Ref.cLui),
    .leaf (.decl Ref.cLui),
    .switch 10 2 [113, 115, 117, 118],
    .branch 12 114 0,
    .leaf (.decl Ref.cSrli32),
    .branch 12 116 0,
    .leaf (.decl Ref.cSrai32),
    .leaf (.decl Ref.cAndi),
    .switch 5 2 [119, 121, 123, 125],
    .branch 12 120 0 ]

/-- Entries 120 to 143 of the RV32 tree. -/
def refArena32f : List Node :=
  [ .leaf (.decl Ref.cSub),
    .branch 12 122 0,
    .leaf (.decl Ref.cXor),
    .branch 12 124 0,
    .leaf (.decl Ref.cOr),
    .branch 12 126 0,
    .leaf (.decl Ref.cAnd),
    .leaf (.decl Ref.cJ),
    .leaf (.decl Ref.cBeqz),
    .leaf (.decl Ref.cBnez),
    .switch 13 3 [131, 0, 133, 0, 143, 0, 185, 0],
    .branch 12 132 0,
    .leaf (.decl Ref.cSlli32),
    .branch 7 134 142,
    .branch 8 135 141,
    .branch 9 136 140,
    .branch 10 137 139,
    .branch 11 0 138,
    .leaf (.decl Ref.cLwsp),
    .leaf (.decl Ref.cLwsp),
    .leaf (.decl Ref.cLwsp),
    .leaf (.decl Ref.cLwsp),
    .leaf (.decl Ref.cLwsp),
    .branch 12 144 164 ]

/-- Entries 144 to 167 of the RV32 tree. -/
def refArena32g : List Node :=
  [ .branch 2 145 163,
    .branch 3 146 162,
    .branch 4 147 161,
    .branch 5 148 160,
    .branch 6 149 159,
    .branch 7 150 158,
    .branch 8 151 157,
    .branch 9 152 156,
    .branch 10 153 155,
    .branch 11 0 154,
    .leaf (.decl Ref.cJr),
    .leaf (.decl Ref.cJr),
    .leaf (.decl Ref.cJr),
    .leaf (.decl Ref.cJr),
    .leaf (.decl Ref.cJr),
    .leaf (.decl Ref.cMv),
    .leaf (.decl Ref.cMv),
    .leaf (.decl Ref.cMv),
    .leaf (.decl Ref.cMv),
    .leaf (.decl Ref.cMv),
    .branch 2 165 184,
    .branch 3 166 183,
    .branch 4 167 182,
    .branch 5 168 181 ]

/-- Entries 168 to 191 of the RV32 tree. -/
def refArena32h : List Node :=
  [ .branch 6 169 180,
    .branch 7 170 179,
    .branch 8 171 178,
    .branch 9 172 177,
    .branch 10 173 176,
    .branch 11 174 175,
    .leaf (.decl Ref.cEbreak),
    .leaf (.decl Ref.cJalr),
    .leaf (.decl Ref.cJalr),
    .leaf (.decl Ref.cJalr),
    .leaf (.decl Ref.cJalr),
    .leaf (.decl Ref.cJalr),
    .leaf (.decl Ref.cAdd),
    .leaf (.decl Ref.cAdd),
    .leaf (.decl Ref.cAdd),
    .leaf (.decl Ref.cAdd),
    .leaf (.decl Ref.cAdd),
    .leaf (.decl Ref.cSwsp),
    .switch 2 5 [187, 0, 0, 193, 196, 210, 0, 0, 211, 0, 0, 0, 215, 258, 0, 0, 0, 0, 0, 0, 0, 0, 0, 0, 259, 266, 0, 268, 269, 0, 0, 0],
    .switch 12 3 [188, 189, 190, 0, 191, 192, 0, 0],
    .leaf (.decl Ref.lb),
    .leaf (.decl Ref.lh),
    .leaf (.decl Ref.lw),
    .leaf (.decl Ref.lbu) ]

/-- Entries 192 to 215 of the RV32 tree. -/
def refArena32i : List Node :=
  [ .leaf (.decl Ref.lhu),
    .switch 12 3 [194, 195, 0, 0, 0, 0, 0, 0],
    .leaf (.decl Ref.fence),
    .leaf (.decl Ref.fenceI),
    .switch 12 3 [197, 198, 201, 202, 203, 204, 208, 209],
    .leaf (.decl Ref.addi),
    .switch 25 5 [199, 0, 0, 0, 0, 0, 0, 0, 0, 0, 0, 0, 0, 0, 0, 0, 0, 0, 0, 0, 0, 0, 0, 0, 0, 0, 0, 0, 0, 0, 0, 0],
    .switch 30 2 [200, 0, 0, 0],
    .leaf (.decl Ref.slli32),
    .leaf (.decl Ref.slti),
    .leaf (.decl Ref.sltiu),
    .leaf (.decl Ref.xori),
    .switch 25 5 [205, 0, 0, 0, 0, 0, 0, 0, 0, 0, 0, 0, 0, 0, 0, 0, 0, 0, 0, 0, 0, 0, 0, 0, 0, 0, 0, 0, 0, 0, 0, 0],
    .switch 30 2 [206, 207, 0, 0],
    .leaf (.decl Ref.srli32),
    .leaf (.decl Ref.srai32),
    .leaf (.decl Ref.ori),
    .leaf (.decl Ref.andi),
    .leaf (.decl Ref.auipc),
    .switch 12 3 [212, 213, 214, 0, 0, 0, 0, 0],
    .leaf (.decl Ref.sb),
    .leaf (.decl Ref.sh),
    .leaf (.decl Ref.sw),
    .switch 12 3 [216, 222, 227, 232, 237, 242, 248, 253] ]

/-- Entries 216 to 239 of the RV32 tree. -/
def refArena32j : List Node :=
  [ .switch 25 5 [217, 220, 0, 0, 0, 0, 0, 0, 0, 0, 0, 0, 0, 0, 0, 0, 0, 0, 0, 0, 0, 0, 0, 0, 0, 0, 0, 0, 0, 0, 0, 0],
    .switch 30 2 [218, 219, 0, 0],
    .leaf (.decl Ref.add),
    .leaf (.decl Ref.sub),
    .switch 30 2 [221, 0, 0, 0],
    .leaf (.decl Ref.mul),
    .switch 25 5 [223, 225, 0, 0, 0, 0, 0, 0, 0, 0, 0, 0, 0, 0, 0, 0, 0, 0, 0, 0, 0, 0, 0, 0, 0, 0, 0, 0, 0, 0, 0, 0],
    .switch 30 2 [224, 0, 0, 0],
    .leaf (.decl Ref.sll),
    .switch 30 2 [226, 0, 0, 0],
    .leaf (.decl Ref.mulh),
    .switch 25 5 [228, 230, 0, 0, 0, 0, 0, 0, 0, 0, 0, 0, 0, 0, 0, 0, 0, 0, 0, 0, 0, 0, 0, 0, 0, 0, 0, 0, 0, 0, 0, 0],
    .switch 30 2 [229, 0, 0, 0],
    .leaf (.decl Ref.slt),
    .switch 30 2 [231, 0, 0, 0],
    .leaf (.decl Ref.mulhsu),
    .switch 25 5 [233, 235, 0, 0, 0, 0, 0, 0, 0, 0, 0, 0, 0, 0, 0, 0, 0, 0, 0, 0, 0, 0, 0, 0, 0, 0, 0, 0, 0, 0, 0, 0],
    .switch 30 2 [234, 0, 0, 0],
    .leaf (.decl Ref.sltu),
    .switch 30 2 [236, 0, 0, 0],
    .leaf (.decl Ref.mulhu),
    .switch 25 5 [238, 240, 0, 0, 0, 0, 0, 0, 0, 0, 0, 0, 0, 0, 0, 0, 0, 0, 0, 0, 0, 0, 0, 0, 0, 0, 0, 0, 0, 0, 0, 0],
    .switch 30 2 [239, 0, 0, 0],
    .leaf (.decl Ref.xor) ]

/-- Entries 240 to 263 of the RV32 tree. -/
def refArena32k : List Node :=
  [ .switch 30 2 [241, 0, 0, 0],
    .leaf (.decl Ref.div),
    .switch 25 5 [243, 246, 0, 0, 0, 0, 0, 0, 0, 0, 0, 0, 0, 0, 0, 0, 0, 0, 0, 0, 0, 0, 0, 0, 0, 0, 0, 0, 0, 0, 0, 0],
    .switch 30 2 [244, 245, 0, 0],
    .leaf (.decl Ref.srl),
    .leaf (.decl Ref.sra),
    .switch 30 2 [247, 0, 0, 0],
    .leaf (.decl Ref.divu),
    .switch 25 5 [249, 251, 0, 0, 0, 0, 0, 0, 0, 0, 0, 0, 0, 0, 0, 0, 0, 0, 0, 0, 0, 0, 0, 0, 0, 0, 0, 0, 0, 0, 0, 0],
    .switch 30 2 [250, 0, 0, 0],
    .leaf (.decl Ref.or),
    .switch 30 2 [252, 0, 0, 0],
    .leaf (.decl Ref.rem),
    .switch 25 5 [254, 256, 0, 0, 0, 0, 0, 0, 0, 0, 0, 0, 0, 0, 0, 0, 0, 0, 0, 0, 0, 0, 0, 0, 0, 0, 0, 0, 0, 0, 0, 0],
    .switch 30 2 [255, 0, 0, 0],
    .leaf (.decl Ref.and),
    .switch 30 2 [257, 0, 0, 0],
    .leaf (.decl Ref.remu),
    .leaf (.decl Ref.lui),
    .switch 12 3 [260, 261, 0, 0, 262, 263, 264, 265],
    .leaf (.decl Ref.beq),
    .leaf (.decl Ref.bne),
    .leaf (.decl Ref.blt),
    .leaf (.decl Ref.bge) ]

/-- Entries 264 to 287 of the RV32 tree. -/
def refArena32l : List Node :=
  [ .leaf (.decl Ref.bltu),
    .leaf (.decl Ref.bgeu),
    .switch 12 3 [267, 0, 0, 0, 0, 0, 0, 0],
    .leaf (.decl Ref.jalr),
    .leaf (.decl Ref.jal),
    .switch 12 3 [270, 290, 291, 292, 0, 293, 294, 295],
    .switch 7 5 [271, 0, 0, 0, 0, 0, 0, 0, 0, 0, 0, 0, 0, 0, 0, 0, 0, 0, 0, 0, 0, 0, 0, 0, 0, 0, 0, 0, 0, 0, 0, 0],
    .switch 25 5 [272, 0, 0, 0, 0, 0, 0, 0, 278, 284, 0, 0, 0, 0, 0, 0, 0, 0, 0, 0, 0, 0, 0, 0, 286, 0, 0, 0, 0, 0, 0, 0],
    .switch 15 5 [273, 0, 0, 0, 0, 0, 0, 0, 0, 0, 0, 0, 0, 0, 0, 0, 0, 0, 0, 0, 0, 0, 0, 0, 0, 0, 0, 0, 0, 0, 0, 0],
    .switch 20 5 [274, 276, 0, 0, 0, 0, 0, 0, 0, 0, 0, 0, 0, 0, 0, 0, 0, 0, 0, 0, 0, 0, 0, 0, 0, 0, 0, 0, 0, 0, 0, 0],
    .switch 30 2 [275, 0, 0, 0],
    .leaf (.decl Ref.ecall),
    .switch 30 2 [277, 0, 0, 0],
    .leaf (.decl Ref.ebreak),
    .switch 15 5 [279, 0, 0, 0, 0, 0, 0, 0, 0, 0, 0, 0, 0, 0, 0, 0, 0, 0, 0, 0, 0, 0, 0, 0, 0, 0, 0, 0, 0, 0, 0, 0],
    .switch 20 5 [0, 0, 280, 0, 0, 282, 0, 0, 0, 0, 0, 0, 0, 0, 0, 0, 0, 0, 0, 0, 0, 0, 0, 0, 0, 0, 0, 0, 0, 0, 0, 0],
    .switch 30 2 [281, 0, 0, 0],
    .leaf (.decl Ref.sret),
    .switch 30 2 [283, 0, 0, 0],
    .leaf (.decl Ref.wfi),
    .switch 30 2 [285, 0, 0, 0],
    .leaf (.decl Ref.sfenceVma),
    .switch 15 5 [287, 0, 0, 0, 0, 0, 0, 0, 0, 0, 0, 0, 0, 0, 0, 0, 0, 0, 0, 0, 0, 0, 0, 0, 0, 0, 0, 0, 0, 0, 0, 0],
    .switch 20 5 [0, 0, 288, 0, 0, 0, 0, 0, 0, 0, 0, 0, 0, 0, 0, 0, 0, 0, 0, 0, 0, 0, 0, 0, 0, 0, 0, 0, 0, 0, 0, 0] ]

/-- Entries 288 to 295 of the RV32 tree. -/
def refArena32m : List Node :=
  [ .switch 30 2 [289, 0, 0, 0],
    .leaf (.decl Ref.mret),
    .leaf (.decl Ref.csrrw),
    .leaf (.decl Ref.csrrs),
    .leaf (.decl Ref.csrrc),
    .leaf (.decl Ref.csrrwi),
    .leaf (.decl Ref.csrrsi),
    .leaf (.decl Ref.csrrci) ]

/-- `tree32` of the reference set (10_state.md R13). -/
def refTree32 : Tree :=
  { arena := refArena32a ++
      refArena32b ++
      refArena32c ++
      refArena32d ++
      refArena32e ++
      refArena32f ++
      refArena32g ++
      refArena32h ++
      refArena32i ++
      refArena32j ++
      refArena32k ++
      refArena32l ++
      refArena32m,
    root := 1 }

/-- Entries 0 to 23 of the RV64 tree. -/
def refArena64a : List Node :=
  [ treeIllegal,
    .switch 0 2 [2, 23, 141, 207],
    .switch 13 3 [3, 0, 19, 20, 0, 0, 21, 22],
    .branch 5 4 18,
    .branch 6 5 17,
    .branch 7 6 16,
    .branch 8 7 15,
    .branch 9 8 14,
    .branch 10 9 13,
    .branch 11 10 12,
    .branch 12 0 11,
    .leaf (.decl Ref.cAddi4spn),
    .leaf (.decl Ref.cAddi4spn),
    .leaf (.decl Ref.cAddi4spn),
    .leaf (.decl Ref.cAddi4spn),
    .leaf (.decl Ref.cAddi4spn),
    .leaf (.decl Ref.cAddi4spn),
    .leaf (.decl Ref.cAddi4spn),
    .leaf (.decl Ref.cAddi4spn),
    .leaf (.decl Ref.cLw),
    .leaf (.decl Ref.cLd),
    .leaf (.decl Ref.cSw),
    .leaf (.decl Ref.cSd),
    .switch 13 3 [24, 35, 45, 46, 123, 138, 139, 140] ]

/-- Entries 24 to 47 of the RV64 tree. -/
def refArena64b : List Node :=
  [ .branch 7 25 34,
    .branch 8 26 33,
    .branch 9 27 32,
    .branch 10 28 31,
    .branch 11 29 30,
    .leaf (.nop Ref.cNop),
    .leaf (.decl Ref.cAddi),
    .leaf (.decl Ref.cAddi),
    .leaf (.decl Ref.cAddi),
    .leaf (.decl Ref.cAddi),
    .leaf (.decl Ref.cAddi),
    .branch 7 36 44,
    .branch 8 37 43,
    .branch 9 38 42,
    .branch 10 39 41,
    .branch 11 0 40,
    .leaf (.decl Ref.cAddiw),
    .leaf (.decl Ref.cAddiw),
    .leaf (.decl Ref.cAddiw),
    .leaf (.decl Ref.cAddiw),
    .leaf (.decl Ref.cAddiw),
    .leaf (.decl Ref.cLi),
    .branch 2 47 112,
    .branch 3 48 101 ]

/-- Entries 48 to 71 of the RV64 tree. -/
def refArena64c : List Node :=
  [ .branch 4 49 90,
    .branch 5 50 79,
    .branch 6 51 68,
    .branch 7 52 66,
    .branch 8 53 55,
    .branch 12 0 54,
    .leaf (.decl Ref.cLui),
    .branch 9 56 64,
    .branch 10 57 62,
    .branch 11 58 60,
    .branch 12 0 59,
    .leaf (.decl Ref.cAddi16sp),
    .branch 12 0 61,
    .leaf (.decl Ref.cLui),
    .branch 12 0 63,
    .leaf (.decl Ref.cLui),
    .branch 12 0 65,
    .leaf (.decl Ref.cLui),
    .branch 12 0 67,
    .leaf (.decl Ref.cLui),
    .branch 7 69 78,
    .branch 8 70 71,
    .leaf (.decl Ref.cLui),
    .branch 9 72 77 ]

/-- Entries 72 to 95 of the RV64 tree. -/
def refArena64d : List Node :=
  [ .branch 10 73 76,
    .branch 11 74 75,
    .leaf (.decl Ref.cAddi16sp),
    .leaf (.decl Ref.cLui),
    .leaf (.decl Ref.cLui),
    .leaf (.decl Ref.cLui),
    .leaf (.decl Ref.cLui),
    .branch 7 80 89,
    .branch 8 81 82,
    .leaf (.decl Ref.cLui),
    .branch 9 83 88,
    .branch 10 84 87,
    .branch 11 85 86,
    .leaf (.decl Ref.cAddi16sp),
    .leaf (.decl Ref.cLui),
    .leaf (.decl Ref.cLui),
    .leaf (.decl Ref.cLui),
    .leaf (.decl Ref.cLui),
    .branch 7 91 100,
    .branch 8 92 93,
    .leaf (.decl Ref.cLui),
    .branch 9 94 99,
    .branch 10 95 98,
    .branch 11 96 97 ]

/-- Entries 96 to 119 of the RV64 tree. -/
def refArena64e : List Node :=
  [ .leaf (.decl Ref.cAddi16sp),
    .leaf (.decl Ref.cLui),
    .leaf (.decl Ref.cLui),
    .leaf (.decl Ref.cLui),
    .leaf (.decl Ref.cLui),
    .branch 7 102 111,
    .branch 8 103 104,
    .leaf (.decl Ref.cLui),
    .branch 9 105 110,
    .branch 10 106 109,
    .branch 11 107 108,
    .leaf (.decl Ref.cAddi16sp),
    .leaf (.decl Ref.cLui),
    .leaf (.decl Ref.cLui),
    .leaf (.decl Ref.cLui),
    .leaf (.decl Ref.cLui),
    .branch 7 113 122,
    .branch 8 114 115,
    .leaf (.decl Ref.cLui),
    .branch 9 116 121,
    .branch 10 117 120,
    .branch 11 118 119,
    .leaf (.decl Ref.cAddi16sp),
    .leaf (.decl Ref.cLui) ]

/-- Entries 120 to 143 of the RV64 tree. -/
def refArena64f : List Node :=
  [ .leaf (.decl Ref.cLui),
    .leaf (.decl Ref.cLui),
    .leaf (.decl Ref.cLui),
    .switch 10 2 [124, 125, 126, 127],
    .leaf (.decl Ref.cSrli64),
    .leaf (.decl Ref.cSrai64),
    .leaf (.decl Ref.cAndi),
    .switch 5 2 [128, 131, 134, 136],
    .branch 12 129 130,
    .leaf (.decl Ref.cSub),
    .leaf (.decl Ref.cSubw),
    .branch 12 132 133,
    .leaf (.decl Ref.cXor),
    .leaf (.decl Ref.cAddw),
    .branch 12 135 0,
    .leaf (.decl Ref.cOr),
    .branch 12 137 0,
    .leaf (.decl Ref.cAnd),
    .leaf (.decl Ref.cJ),
    .leaf (.decl Ref.cBeqz),
    .leaf (.decl Ref.cBnez),
    .switch 13 3 [142, 0, 143, 153, 163, 0, 205, 206],
    .leaf (.decl Ref.cSlli64),
    .branch 7 144 152 ]

/-- Entries 144 to 167 of the RV64 tree. -/
def refArena64g : List Node :=
  [ .branch 8 145 151,
    .branch 9 146 150,
    .branch 10 147 149,
    .branch 11 0 148,
    .leaf (.decl Ref.cLwsp),
    .leaf (.decl Ref.cLwsp),
    .leaf (.decl Ref.cLwsp),
    .leaf (.decl Ref.cLwsp),
    .leaf (.decl Ref.cLwsp),
    .branch 7 154 162,
    .branch 8 155 161,
    .branch 9 156 160,
    .branch 10 157 159,
    .branch 11 0 158,
    .leaf (.decl Ref.cLdsp),
    .leaf (.decl Ref.cLdsp),
    .leaf (.decl Ref.cLdsp),
    .leaf (.decl Ref.cLdsp),
    .leaf (.decl Ref.cLdsp),
    .branch 12 164 184,
    .branch 2 165 183,
    .branch 3 166 182,
    .branch 4 167 181,
    .branch 5 168 180 ]

/-- Entries 168 to 191 of the RV64 tree. -/
def refArena64h : List Node :=
  [ .branch 6 169 179,
    .branch 7 170 178,
    .branch 8 171 177,
    .branch 9 172 176,
    .branch 10 173 175,
    .branch 11 0 174,
    .leaf (.decl Ref.cJr),
    .leaf (.decl Ref.cJr),
    .leaf (.decl Ref.cJr),
    .leaf (.decl Ref.cJr),
    .leaf (.decl Ref.cJr),
    .leaf (.decl Ref.cMv),
    .leaf (.decl Ref.cMv),
    .leaf (.decl Ref.cMv),
    .leaf (.decl Ref.cMv),
    .leaf (.decl Ref.cMv),
    .branch 2 185 204,
    .branch 3 186 203,
    .branch 4 187 202,
    .branch 5 188 201,
    .branch 6 189 200,
    .branch 7 190 199,
    .branch 8 191 198,
    .branch 9 192 197 ]

/-- Entries 192 to 215 of the RV64 tree. -/
def refArena64i : List Node :=
  [ .branch 10 193 196,
    .branch 11 194 195,
    .leaf (.decl Ref.cEbreak),
    .leaf (.decl Ref.cJalr),
    .leaf (.decl Ref.cJalr),
    .leaf (.decl Ref.cJalr),
    .leaf (.decl Ref.cJalr),
    .leaf (.decl Ref.cJalr),
    .leaf (.decl Ref.cAdd),
    .leaf (.decl Ref.cAdd),
    .leaf (.decl Ref.cAdd),
    .leaf (.decl Ref.cAdd),
    .leaf (.decl Ref.cAdd),
    .leaf (.decl Ref.cSwsp),
    .leaf (.decl Ref.cSdsp),
    .switch 2 5 [208, 0, 0, 216, 219, 234, 235, 0, 244, 0, 0, 0, 249, 292, 293, 0, 0, 0, 0, 0, 0, 0, 0, 0, 318, 325, 0, 327, 328, 0, 0, 0],
    .switch 12 3 [209, 210, 211, 212, 213, 214, 215, 0],
    .leaf (.decl Ref.lb),
    .leaf (.decl Ref.lh),
    .leaf (.decl Ref.lw),
    .leaf (.decl Ref.ld),
    .leaf (.decl Ref.lbu),
    .leaf (.decl Ref.lhu),
    .leaf (.decl Ref.lwu) ]

/-- Entries 216 to 239 of the RV64 tree. -/
def refArena64j : List Node :=
  [ .switch 12 3 [217, 218, 0, 0, 0, 0, 0, 0],
    .leaf (.decl Ref.fence),
    .leaf (.decl Ref.fenceI),
    .switch 12 3 [220, 221, 224, 225, 226, 227, 232, 233],
    .leaf (.decl Ref.addi),
    .switch 26 5 [222, 0, 0, 0, 0, 0, 0, 0, 0, 0, 0, 0, 0, 0, 0, 0, 0, 0, 0, 0, 0, 0, 0, 0, 0, 0, 0, 0, 0, 0, 0, 0],
    .branch 31 223 0,
    .leaf (.decl Ref.slli64),
    .leaf (.decl Ref.slti),
    .leaf (.decl Ref.sltiu),
    .leaf (.decl Ref.xori),
    .switch 26 5 [228, 0, 0, 0, 0, 0, 0, 0, 0, 0, 0, 0, 0, 0, 0, 0, 230, 0, 0, 0, 0, 0, 0, 0, 0, 0, 0, 0, 0, 0, 0, 0],
    .branch 31 229 0,
    .leaf (.decl Ref.srli64),
    .branch 31 231 0,
    .leaf (.decl Ref.srai64),
    .leaf (.decl Ref.ori),
    .leaf (.decl Ref.andi),
    .leaf (.decl Ref.auipc),
    .switch 12 3 [236, 237, 0, 0, 0, 240, 0, 0],
    .leaf (.decl Ref.addiw),
    .switch 25 5 [238, 0, 0, 0, 0, 0, 0, 0, 0, 0, 0, 0, 0, 0, 0, 0, 0, 0, 0, 0, 0, 0, 0, 0, 0, 0, 0, 0, 0, 0, 0, 0],
    .switch 30 2 [239, 0, 0, 0],
    .leaf (.decl Ref.slliw) ]

/-- Entries 240 to 263 of the RV64 tree. -/
def refArena64k : List Node :=
  [ .switch 25 5 [241, 0, 0, 0, 0, 0, 0, 0, 0, 0, 0, 0, 0, 0, 0, 0, 0, 0, 0, 0, 0, 0, 0, 0, 0, 0, 0, 0, 0, 0, 0, 0],
    .switch 30 2 [242, 243, 0, 0],
    .leaf (.decl Ref.srliw),
    .leaf (.decl Ref.sraiw),
    .switch 12 3 [245, 246, 247, 248, 0, 0, 0, 0],
    .leaf (.decl Ref.sb),
    .leaf (.decl Ref.sh),
    .leaf (.decl Ref.sw),
    .leaf (.decl Ref.sd),
    .switch 12 3 [250, 256, 261, 266, 271, 276, 282, 287],
    .switch 25 5 [251, 254, 0, 0, 0, 0, 0, 0, 0, 0, 0, 0, 0, 0, 0, 0, 0, 0, 0, 0, 0, 0, 0, 0, 0, 0, 0, 0, 0, 0, 0, 0],
    .switch 30 2 [252, 253, 0, 0],
    .leaf (.decl Ref.add),
    .leaf (.decl Ref.sub),
    .switch 30 2 [255, 0, 0, 0],
    .leaf (.decl Ref.mul),
    .switch 25 5 [257, 259, 0, 0, 0, 0, 0, 0, 0, 0, 0, 0, 0, 0, 0, 0, 0, 0, 0, 0, 0, 0, 0, 0, 0, 0, 0, 0, 0, 0, 0, 0],
    .switch 30 2 [258, 0, 0, 0],
    .leaf (.decl Ref.sll),
    .switch 30 2 [260, 0, 0, 0],
    .leaf (.decl Ref.mulh),
    .switch 25 5 [262, 264, 0, 0, 0, 0, 0, 0, 0, 0, 0, 0, 0, 0, 0, 0, 0, 0, 0, 0, 0, 0, 0, 0, 0, 0, 0, 0, 0, 0, 0, 0],
    .switch 30 2 [263, 0, 0, 0],
    .leaf (.decl Ref.slt) ]

/-- Entries 264 to 287 of the RV64 tree. -/
def refArena64l : List Node :=
  [ .switch 30 2 [265, 0, 0, 0],
    .leaf (.decl Ref.mulhsu),
    .switch 25 5 [267, 269, 0, 0, 0, 0, 0, 0, 0, 0, 0, 0, 0, 0, 0, 0, 0, 0, 0, 0, 0, 0, 0, 0, 0, 0, 0, 0, 0, 0, 0, 0],
    .switch 30 2 [268, 0, 0, 0],
    .leaf (.decl Ref.sltu),
    .switch 30 2 [270, 0, 0, 0],
    .leaf (.decl Ref.mulhu),
    .switch 25 5 [272, 274, 0, 0, 0, 0, 0, 0, 0, 0, 0, 0, 0, 0, 0, 0, 0, 0, 0, 0, 0, 0, 0, 0, 0, 0, 0, 0, 0, 0, 0, 0],
    .switch 30 2 [273, 0, 0, 0],
    .leaf (.decl Ref.xor),
    .switch 30 2 [275, 0, 0, 0],
    .leaf (.decl Ref.div),
    .switch 25 5 [277, 280, 0, 0, 0, 0, 0, 0, 0, 0, 0, 0, 0, 0, 0, 0, 0, 0, 0, 0, 0, 0, 0, 0, 0, 0, 0, 0, 0, 0, 0, 0],
    .switch 30 2 [278, 279, 0, 0],
    .leaf (.decl Ref.srl),
    .leaf (.decl Ref.sra),
    .switch 30 2 [281, 0, 0, 0],
    .leaf (.decl Ref.divu),
    .switch 25 5 [283, 285, 0, 0, 0, 0, 0, 0, 0, 0, 0, 0, 0, 0, 0, 0, 0, 0, 0, 0, 0, 0, 0, 0, 0, 0, 0, 0, 0, 0, 0, 0],
    .switch 30 2 [284, 0, 0, 0],
    .leaf (.decl Ref.or),
    .switch 30 2 [286, 0, 0, 0],
    .leaf (.decl Ref.rem),
    .switch 25 5 [288, 290, 0, 0, 0, 0, 0, 0, 0, 0, 0, 0, 0, 0, 0, 0, 0, 0, 0, 0, 0, 0, 0, 0, 0, 0, 0, 0, 0, 0, 0, 0] ]

/-- Entries 288 to 311 of the RV64 tree. -/
def refArena64m : List Node :=
  [ .switch 30 2 [289, 0, 0, 0],
    .leaf (.decl Ref.and),
    .switch 30 2 [291, 0, 0, 0],
    .leaf (.decl Ref.remu),
    .leaf (.decl Ref.lui),
    .switch 12 3 [294, 300, 0, 0, 303, 306, 312, 315],
    .switch 25 5 [295, 298, 0, 0, 0, 0, 0, 0, 0, 0, 0, 0, 0, 0, 0, 0, 0, 0, 0, 0, 0, 0, 0, 0, 0, 0, 0, 0, 0, 0, 0, 0],
    .switch 30 2 [296, 297, 0, 0],
    .leaf (.decl Ref.addw),
    .leaf (.decl Ref.subw),
    .switch 30 2 [299, 0, 0, 0],
    .leaf (.decl Ref.mulw),
    .switch 25 5 [301, 0, 0, 0, 0, 0, 0, 0, 0, 0, 0, 0, 0, 0, 0, 0, 0, 0, 0, 0, 0, 0, 0, 0, 0, 0, 0, 0, 0, 0, 0, 0],
    .switch 30 2 [302, 0, 0, 0],
    .leaf (.decl Ref.sllw),
    .switch 25 5 [0, 304, 0, 0, 0, 0, 0, 0, 0, 0, 0, 0, 0, 0, 0, 0, 0, 0, 0, 0, 0, 0, 0, 0, 0, 0, 0, 0, 0, 0, 0, 0],
    .switch 30 2 [305, 0, 0, 0],
    .leaf (.decl Ref.divw),
    .switch 25 5 [307, 310, 0, 0, 0, 0, 0, 0, 0, 0, 0, 0, 0, 0, 0, 0, 0, 0, 0, 0, 0, 0, 0, 0, 0, 0, 0, 0, 0, 0, 0, 0],
    .switch 30 2 [308, 309, 0, 0],
    .leaf (.decl Ref.srlw),
    .leaf (.decl Ref.sraw),
    .switch 30 2 [311, 0, 0, 0],
    .leaf (.decl Ref.divuw) ]

/-- Entries 312 to 335 of the RV64 tree. -/
def refArena64n : List Node :=
  [ .switch 25 5 [0, 313, 0, 0, 0, 0, 0, 0, 0, 0, 0, 0, 0, 0, 0, 0, 0, 0, 0, 0, 0, 0, 0, 0, 0, 0, 0, 0, 0, 0, 0, 0],
    .switch 30 2 [314, 0, 0, 0],
    .leaf (.decl Ref.remw),
    .switch 25 5 [0, 316, 0, 0, 0, 0, 0, 0, 0, 0, 0, 0, 0, 0, 0, 0, 0, 0, 0, 0, 0, 0, 0, 0, 0, 0, 0, 0, 0, 0, 0, 0],
    .switch 30 2 [317, 0, 0, 0],
    .leaf (.decl Ref.remuw),
    .switch 12 3 [319, 320, 0, 0, 321, 322, 323, 324],
    .leaf (.decl Ref.beq),
    .leaf (.decl Ref.bne),
    .leaf (.decl Ref.blt),
    .leaf (.decl Ref.bge),
    .leaf (.decl Ref.bltu),
    .leaf (.decl Ref.bgeu),
    .switch 12 3 [326, 0, 0, 0, 0, 0, 0, 0],
    .leaf (.decl Ref.jalr),
    .leaf (.decl Ref.jal),
    .switch 12 3 [329, 349, 350, 351, 0, 352, 353, 354],
    .switch 7 5 [330, 0, 0, 0, 0, 0, 0, 0, 0, 0, 0, 0, 0, 0, 0, 0, 0, 0, 0, 0, 0, 0, 0, 0, 0, 0, 0, 0, 0, 0, 0, 0],
    .switch 25 5 [331, 0, 0, 0, 0, 0, 0, 0, 337, 343, 0, 0, 0, 0, 0, 0, 0, 0, 0, 0, 0, 0, 0, 0, 345, 0, 0, 0, 0, 0, 0, 0],
    .switch 15 5 [332, 0, 0, 0, 0, 0, 0, 0, 0, 0, 0, 0, 0, 0, 0, 0, 0, 0, 0, 0, 0, 0, 0, 0, 0, 0, 0, 0, 0, 0, 0, 0],
    .switch 20 5 [333, 335, 0, 0, 0, 0, 0, 0, 0, 0, 0, 0, 0, 0, 0, 0, 0, 0, 0, 0, 0, 0, 0, 0, 0, 0, 0, 0, 0, 0, 0, 0],
    .switch 30 2 [334, 0, 0, 0],
    .leaf (.decl Ref.ecall),
    .switch 30 2 [336, 0, 0, 0] ]

/-- Entries 336 to 354 of the RV64 tree. -/
def refArena64o : List Node :=
  [ .leaf (.decl Ref.ebreak),
    .switch 15 5 [338, 0, 0, 0, 0, 0, 0, 0, 0, 0, 0, 0, 0, 0, 0, 0, 0, 0, 0, 0, 0, 0, 0, 0, 0, 0, 0, 0, 0, 0, 0, 0],
    .switch 20 5 [0, 0, 339, 0, 0, 341, 0, 0, 0, 0, 0, 0, 0, 0, 0, 0, 0, 0, 0, 0, 0, 0, 0, 0, 0, 0, 0, 0, 0, 0, 0, 0],
    .switch 30 2 [340, 0, 0, 0],
    .leaf (.decl Ref.sret),
    .switch 30 2 [342, 0, 0, 0],
    .leaf (.decl Ref.wfi),
    .switch 30 2 [344, 0, 0, 0],
    .leaf (.decl Ref.sfenceVma),
    .switch 15 5 [346, 0, 0, 0, 0, 0, 0, 0, 0, 0, 0, 0, 0, 0, 0, 0, 0, 0, 0, 0, 0, 0, 0, 0, 0, 0, 0, 0, 0, 0, 0, 0],
    .switch 20 5 [0, 0, 347, 0, 0, 0, 0, 0, 0, 0, 0, 0, 0, 0, 0, 0, 0, 0, 0, 0, 0, 0, 0, 0, 0, 0, 0, 0, 0, 0, 0, 0],
    .switch 30 2 [348, 0, 0, 0],
    .leaf (.decl Ref.mret),
    .leaf (.decl Ref.csrrw),
    .leaf (.decl Ref.csrrs),
    .leaf (.decl Ref.csrrc),
    .leaf (.decl Ref.csrrwi),
    .leaf (.decl Ref.csrrsi),
    .leaf (.decl Ref.csrrci) ]

/-- `tree64` of the reference set (10_state.md R13). -/
def refTree64 : Tree :=
  { arena := refArena64a ++
      refArena64b ++
      refArena64c ++
      refArena64d ++
      refArena64e ++
      refArena64f ++
      refArena64g ++
      refArena64h ++
      refArena64i ++
      refArena64j ++
      refArena64k ++
      refArena64l ++
      refArena64m ++
      refArena64n ++
      refArena64o,
    root := 1 }

end Sys2Proof.Machine
end

