-- ==== Sys2Proof/Machine/State.lean ====
section
/-! DEFINITION. The state of one CPU instance as plain data: the elements of 10_state.md R10, the CPU state `ext` outside
the block (R20) that the reference handlers act on, and two fields of the model's own (log 20). -/

namespace Sys2Proof.Machine

/-- The tag `k` of a failed translation (60_exceptions.md R201): access fault or page fault. -/
inductive FetchTag where
  | access
  | page
deriving DecidableEq, Repr

/-- Trap kinds: the two that the block originates and those that a handler raises (60_exceptions.md R200, R203, R204). -/
inductive TrapKind where
  | instructionFetchFault (k : FetchTag)
  | illegalInstruction
  | instructionAddressMisaligned
  | breakpoint
  | loadAddressMisaligned
  | loadAccessFault
  | storeAddressMisaligned
  | storeAccessFault
  | loadPageFault
  | storePageFault
  | envCallU
  | envCallS
  | envCallM
  | other (n : Nat)
deriving DecidableEq, Repr

/-- What a misaligned data access does on this machine: it raises, or it completes (60_exceptions.md R203; log 9). -/
inductive AlignPolicy where
  | raises
  | completes
deriving DecidableEq, Repr

/-- Privilege modes of `ext` (60_exceptions.md R213). -/
inductive Priv where
  | user
  | supervisor
  | machine
deriving DecidableEq, Repr

/-- The position of the state machine (10_state.md R16). -/
inductive Phase where
  | unbuilt
  | fatal
  | idle
  | fetch
  | decode
  | extract
  | execute
  | update
deriving DecidableEq, Repr

/-- What a handler answers, as latch `out` keeps it (10_state.md R17). -/
inductive HandlerOut where
  | done (taken : Bool)
  | raise (kind : TrapKind) (value : Word)
deriving DecidableEq, Repr

/-- Outcome of a pass (00_scope.md R7); a refused pass has none. -/
inductive PassOutcome where
  | retired
  | trapped (kind : TrapKind) (value : Word)
  | breakpointHit (a : Word)
deriving DecidableEq, Repr

/-- A call of the loop to a collaborator (20_memory.md R40). -/
inductive Call where
  | translate (a : Word)
  | readHalf (a : Word)
  | handler (h : HandlerRef) (args : List Word)
  | deliver (kind : TrapKind) (value : Word)
  | invalidate
deriving DecidableEq, Repr

/-- A sparse map from keys to words: keys strictly rising, no zero word listed (`Store.wf`). -/
abbrev Store (w : Nat) := List (Nat × BitVec w)

/-- What a handler and `Deliver` may read and write: `pc`, `xlen` (44_dispatch_loop.md R154 (b)) and `ext`. -/
structure Cpu where
  /-- program counter (10_state.md R11) -/
  pc       : Word
  /-- active register width (10_state.md R12) -/
  xlen     : Xlen
  /-- x0 to x31 (10_state.md R20); read and written by `readX` and `writeX` only -/
  x        : Vector Word 32
  /-- control and status registers by number (47_reference_rv_system_m.md R401) -/
  csr      : Store 64
  /-- privilege mode -/
  priv     : Priv
  /-- memory, by byte address -/
  mem      : List Host.Cell
  /-- pages that `Translate` answers `Fail` for, each with its tag (20_memory.md R31, log 6) -/
  unmapped : List (Nat × FetchTag)
  /-- what misaligned data accesses do; nothing in a pass writes it (R203, log 9) -/
  align    : AlignPolicy
deriving DecidableEq, Repr

/-- The latches of a pass (10_state.md R17). -/
structure Latches where
  pc0    : Word
  xlen0  : Xlen
  lo16   : Half
  hi16   : Half
  ilen   : Nat
  opcode : Opcode
  res    : DecideResult
  args   : List Word
  out    : HandlerOut
deriving DecidableEq, Repr

/-- The machine (10_state.md R10). -/
structure State where
  cpu     : Cpu
  tree32  : Tree
  tree64  : Tree
  bind    : List Binding
  bp      : Option (List Word)
  phase   : Phase
  lat     : Latches
  budget  : Nat
  /-- the model's own (log 20): outcome of the last pass -/
  outcome : Option PassOutcome
  /-- the model's own (log 20): calls made to the collaborators in the last pass, in order -/
  calls   : List Call
deriving DecidableEq, Repr

/-- The fatal failures, raised by STARTUP (`HostOps.startup`) only (60_exceptions.md R205), and the pass that makes no further
progress. -/
inductive Fault where
  /-- `malformed declaration` (40_declaration_model.md R83). Raised by BUILD. Safe: the spec's own fatal failure. -/
  | malformedDeclaration (m : Mnemonic)
  /-- `malformed declaration set` (40_declaration_model.md R84). Raised by BUILD. Safe: the spec's own fatal failure. -/
  | malformedSet
  /-- `ambiguous declarations`, naming them (41_tree_builder.md R110). Raised by BUILD. Safe: the spec's own fatal failure. -/
  | ambiguousDeclarations (ms : List Mnemonic)
  /-- `missing handler` (45_host_operations.md R170). Raised by STARTUP. Safe: the spec's own fatal failure. -/
  | missingHandler (m : Mnemonic)
  /-- `declaration set does not conform` (40_declaration_model.md R88). Raised by STARTUP. Safe: the spec's own fatal failure. -/
  | nonConforming
  /-- `stuck` (93_implementation_defined.md U6): a handler or `Deliver` never returns, so the pass never ends and RUN hangs
  (70_reset_and_hazards.md R238 (a)). Raised by a pass with such a collaborator; no reference handler and no reference `Deliver`
  is one (log 33). Safe: the spec's own treatment. -/
  | stuck
deriving DecidableEq, Repr

/-- Refusals: situations that the spec gives no meaning (00_scope.md R6, `refuse`), and what the reference machine does
not know. -/
inductive Refusal where
  /-- An instruction without a meaning. Raised by no arm of `exec`. Safe. -/
  | notModelled (mnemonic : String)
  /-- StepOne with an odd `pc` (20_memory.md R33). Raised by the start of a pass. Safe: the spec refuses. -/
  | oddPc
  /-- StepOne or a host command in another phase than IDLE (45_host_operations.md R177). Raised by the start of a pass and
  by the host operations. Safe: the spec refuses. -/
  | notIdle
  /-- STARTUP in another phase than UNBUILT (45_host_operations.md R170, R177). Raised by `HostOps.startup`. Safe: the spec
  refuses. -/
  | notUnbuilt
  /-- SET_XLEN with a width other than 32 and 64 (45_host_operations.md R172). Raised by `HostOps.setXlen`. Safe: the spec
  refuses. -/
  | badWidth (w : Nat)
  /-- A transition of EXTRACT, EXECUTE or UPDATE in a state whose latch `res` holds no declaration. Raised by these
  transitions; no pass from IDLE reaches one. Safe. -/
  | noDeclaration
  /-- A declaration whose mnemonic is not in `bind`. Raised by EXTRACT and EXECUTE; STARTUP's validation rules it out
  (44_dispatch_loop.md R153). Safe. -/
  | unbound (m : Mnemonic)
  /-- A handler or `Deliver` that issues a host command from inside a pass (45_host_operations.md R177,
  93_implementation_defined.md U6). Raised by a pass with such a collaborator; no reference handler and no reference `Deliver`
  is one (log 33). Safe: the spec refuses. -/
  | commandInPass
deriving DecidableEq, Repr

/-- The CPU state that `State.reset` stands for: `pc` and `xlen` by RESET (10_state.md R24; logs 2, 19), `ext` by log 4. -/
def Cpu.reset : Cpu :=
  { pc := Config.resetEntry, xlen := .w64, x := Vector.replicate 32 0, csr := [], priv := .machine, mem := [], unmapped := [],
    align := .raises }

/-- The latches after reset: unspecified in the spec (10_state.md R24), named in log 3. -/
def Latches.reset : Latches :=
  { pc0 := 0, xlen0 := .w64, lo16 := 0, hi16 := 0, ilen := 2, opcode := 0, res := .illegal, args := [], out := .done false }

/-- The binding of the reference handlers (10_state.md R14). -/
def refBind : List Binding := refMnemonics.map refBinding

/-- The machine after STARTUP with the reference set and RESET (10_state.md R24). -/
def State.reset : State :=
  { cpu := Cpu.reset, tree32 := refTree32, tree64 := refTree64, bind := refBind, bp := none, phase := .idle,
    lat := Latches.reset, budget := 0, outcome := none, calls := [] }

end Sys2Proof.Machine
end

