-- ==== Sys2Proof/Machine/Flags.lean ====
section
/-! DEFINITION. Flag computations: the one flag `taken` of the handler interface (10_state.md R21) as the branch handlers
compute it, and the fields of the status register `mstatus` that trap entry and trap return change (60_exceptions.md R208,
R210; layout PRESUMED from the family, logs 13, 16). -/

namespace Sys2Proof.Machine

/-! ## The flag `taken`: comparisons at the active width (rules R305 to R310, R479, R480; log 7) -/

/-- A comparison of two register values, on their low `xlen` bits. -/
def compareAt (x : Xlen) (f : (w : Nat) → BitVec w → BitVec w → Bool) (a b : Word) : Bool :=
  match x with
  | .w32 => f 32 (a.setWidth 32) (b.setWidth 32)
  | .w64 => f 64 a b

/-- Equal (R305). -/
def condEq (w : Nat) (a b : BitVec w) : Bool := a == b
/-- Not equal (R306). -/
def condNe (w : Nat) (a b : BitVec w) : Bool := a != b
/-- Signed less than (R307, R320, R334). -/
def condLt (w : Nat) (a b : BitVec w) : Bool := a.slt b
/-- Signed greater or equal (R308). -/
def condGe (w : Nat) (a b : BitVec w) : Bool := !a.slt b
/-- Unsigned less than (R309, R321, R335). -/
def condLtu (w : Nat) (a b : BitVec w) : Bool := a.ult b
/-- Unsigned greater or equal (R310). -/
def condGeu (w : Nat) (a b : BitVec w) : Bool := !a.ult b

/-! ## Bits of a status word -/

/-- Bit `i`. -/
def bitAt (v : Word) (i : Nat) : Bool := v.getLsbD i

/-- The word with bit `i` written. -/
def putBit (v : Word) (i : Nat) (b : Bool) : Word :=
  if b then v ||| (1#64 <<< i) else v &&& ~~~(1#64 <<< i)

/-- The word with bits `i + 1` and `i` written. -/
def putField2 (v : Word) (i : Nat) (f : BitVec 2) : Word :=
  (v &&& ~~~(3#64 <<< i)) ||| (f.setWidth 64 <<< i)

/-- SIE, bit 1 of `mstatus`. -/
def sieBit : Nat := 1
/-- MIE, bit 3 of `mstatus`. -/
def mieBit : Nat := 3
/-- SPIE, bit 5 of `mstatus`. -/
def spieBit : Nat := 5
/-- MPIE, bit 7 of `mstatus`. -/
def mpieBit : Nat := 7
/-- SPP, bit 8 of `mstatus`. -/
def sppBit : Nat := 8
/-- MPP, bits 12:11 of `mstatus`. -/
def mppBit : Nat := 11
/-- MPRV, bit 17 of `mstatus`. -/
def mprvBit : Nat := 17
/-- TVM, bit 20 of `mstatus`. -/
def tvmBit : Nat := 20
/-- TSR, bit 22 of `mstatus`. -/
def tsrBit : Nat := 22

/-- The two-bit number of a privilege mode. -/
def privBits : Priv → BitVec 2
  | .user => 0
  | .supervisor => 1
  | .machine => 3

/-- The mode that a two-bit number stands for; 2 is no mode and reads as U (log 32). -/
def privOfBits (b : BitVec 2) : Priv :=
  if b = 3 then .machine else if b = 1 then .supervisor else .user

/-- MPP of a status word. -/
def mppOf (v : Word) : BitVec 2 := (v >>> mppBit).setWidth 2

/-- The status word that a trap into M leaves: MPIE gets MIE, MIE gets 0, MPP gets the mode left. -/
def statusEnterM (v : Word) (p : Priv) : Word :=
  putField2 (putBit (putBit v mpieBit (bitAt v mieBit)) mieBit false) mppBit (privBits p)

/-- The status word that a trap into S leaves: SPIE gets SIE, SIE gets 0, SPP says whether the mode left was S. -/
def statusEnterS (v : Word) (p : Priv) : Word :=
  putBit (putBit (putBit v spieBit (bitAt v sieBit)) sieBit false) sppBit (p == .supervisor)

/-- The status word that a return to mode `p` leaves: MPRV is cleared unless `p` is M. -/
def clearMprv (v : Word) (p : Priv) : Word := if p = .machine then v else putBit v mprvBit false

/-- The status word that MRET leaves (R408): MIE gets MPIE, MPIE gets 1, MPP gets U. -/
def statusMret (v : Word) : Word :=
  clearMprv (putField2 (putBit (putBit v mieBit (bitAt v mpieBit)) mpieBit true) mppBit 0) (privOfBits (mppOf v))

/-- The mode that SRET returns to (R407). -/
def sretPriv (v : Word) : Priv := if bitAt v sppBit then .supervisor else .user

/-- The status word that SRET leaves (R407): SIE gets SPIE, SPIE gets 1, SPP gets U. -/
def statusSret (v : Word) : Word :=
  clearMprv (putBit (putBit (putBit v sieBit (bitAt v spieBit)) spieBit true) sppBit false) (sretPriv v)

end Sys2Proof.Machine
end

