-- ==== Sys2Proof/Machine/Ops.lean ====
section
/-! DEFINITION. The named operations over memory and registers: the sparse store, register and CSR access, bytes and wider
data accesses, the reference translation service, taking a trap and returning from one. -/

namespace Sys2Proof.Machine

/-! ## The sparse store -/

/-- The word at a key; an unlisted key reads as zero (log 5). -/
def Store.get {w : Nat} : Store w → Nat → BitVec w
  | [], _ => 0#w
  | (b, v) :: m, a => if a = b then v else Store.get m a

/-- Write a word, in canonical form: writing zero removes the entry. -/
def Store.set {w : Nat} : Store w → Nat → BitVec w → Store w
  | [], a, v => if v = 0#w then [] else [(a, v)]
  | (b, u) :: m, a, v =>
    if a < b then (if v = 0#w then (b, u) :: m else (a, v) :: (b, u) :: m)
    else if a = b then (if v = 0#w then m else (a, v) :: m)
    else (b, u) :: Store.set m a v

/-- Every key is at least `lo`, keys strictly rise, no word is zero. -/
def Store.wfFrom {w : Nat} : Nat → Store w → Bool
  | _, [] => true
  | lo, (b, v) :: m => decide (lo ≤ b) && v != 0#w && Store.wfFrom (b + 1) m

/-- The canonical form of a store. -/
def Store.wf {w : Nat} (m : Store w) : Bool := Store.wfFrom 0 m

/-- Every key is below `n`. -/
def Store.keysBelow {w : Nat} (n : Nat) (m : Store w) : Bool := m.all (fun e => decide (e.1 < n))

/-- The canonical form of memory: sorted, no zero byte listed, every address a 64-bit address (20_memory.md R30). -/
def Memory.wf (m : List Host.Cell) : Bool := Store.wf m && Store.keysBelow (2 ^ 64) m

/-! ## Registers -/

/-- The value that a register of the active width holds: under 32 the low half, sign-extended (log 7). -/
def canon (x : Xlen) (v : Word) : Word :=
  match x with
  | .w32 => (v.setWidth 32).signExtend 64
  | .w64 => v

/-- An address under the active width: under 32 its low half, zero-extended (log 8). -/
def wrapAddr (x : Xlen) (a : Word) : Word :=
  match x with
  | .w32 => (a.setWidth 32).setWidth 64
  | .w64 => a

/-- Read x[r]; x0 reads as zero (95_test_vectors.md section 4). -/
def readX (c : Cpu) (r : BitVec 5) : Word := if r = 0#5 then 0#64 else c.x[r.toNat]'r.isLt

/-- Write x[rd]; a write to x0 is discarded. -/
def writeX (c : Cpu) (rd : BitVec 5) (v : Word) : Cpu :=
  if rd = 0#5 then c else { c with x := c.x.set rd.toNat (canon c.xlen v) rd.isLt }

/-- A handler's write of `pc` (44_dispatch_loop.md R154 (d); truncated under 32 by log 8). -/
def writePc (c : Cpu) (t : Word) : Cpu := { c with pc := wrapAddr c.xlen t }

/-- Bit 0 of an address: no instruction is fetched from an odd one (20_memory.md R33). -/
def isOdd (a : Word) : Bool := a.getLsbD 0

/-- An address with bit 0 cleared (R304, R488, R491; log 27). -/
def evenAddr (a : Word) : Word := a &&& ~~~1#64

/-! ## Control and status registers (log 11) -/

def csrSstatus : BitVec 12 := 0x100
def csrStvec : BitVec 12 := 0x105
def csrSepc : BitVec 12 := 0x141
def csrScause : BitVec 12 := 0x142
def csrStval : BitVec 12 := 0x143
def csrMstatus : BitVec 12 := 0x300
def csrMedeleg : BitVec 12 := 0x302
def csrMtvec : BitVec 12 := 0x305
def csrMepc : BitVec 12 := 0x341
def csrMcause : BitVec 12 := 0x342
def csrMtval : BitVec 12 := 0x343

/-- The stored word of a CSR. -/
def csrGet (c : Cpu) (n : BitVec 12) : Word := Store.get c.csr n.toNat

/-- Store the word of a CSR. -/
def csrPut (c : Cpu) (n : BitVec 12) (v : Word) : Cpu := { c with csr := Store.set c.csr n.toNat v }

/-- CSR[n] as an instruction reads it: `sstatus` shows part of `mstatus` (log 12). -/
def csrRead (c : Cpu) (n : BitVec 12) : Word :=
  if n = csrSstatus then csrGet c csrMstatus &&& Config.sstatusMask else csrGet c n

/-- CSR[n] <- v as an instruction writes it: the low `xlen` bits (log 11); `sstatus` writes its part of `mstatus` (log 12). -/
def csrWrite (c : Cpu) (n : BitVec 12) (v : Word) : Cpu :=
  let v := wrapAddr c.xlen v
  if n = csrSstatus then
    csrPut c csrMstatus ((csrGet c csrMstatus &&& ~~~Config.sstatusMask) ||| (v &&& Config.sstatusMask))
  else csrPut c n v

/-- The number of a privilege mode: 0, 1 or 3. -/
def privLevel (p : Priv) : Nat := (privBits p).toNat

/-- May this mode access the CSR, for a read or for a write? Bits 9:8 of the number are the lowest mode; bits 11:10 both set
say read-only (log 11). -/
def csrAllowed (c : Cpu) (n : BitVec 12) (write : Bool) : Bool :=
  decide ((n >>> 8 &&& 3).toNat ≤ privLevel c.priv) && !(write && n >>> 10 == 3)

/-! ## Memory -/

/-- The byte at an address. -/
def byteAt (c : Cpu) (a : Word) : Byte := Store.get c.mem a.toNat

/-- Store one byte. -/
def putByte (c : Cpu) (a : Word) (b : Byte) : Cpu := { c with mem := Store.set c.mem a.toNat b }

/-- The address after `a` in a data access; it wraps at the active width (20_memory.md R36; log 8). -/
def nextAddr (x : Xlen) (a : Word) : Word := wrapAddr x (a + 1)

/-- `n` bytes from `a` upward, the lowest address least significant (log 26). -/
def loadBytes (c : Cpu) : Nat → Word → Word
  | 0, _ => 0
  | n + 1, a => (byteAt c a).setWidth 64 ||| (loadBytes c n (nextAddr c.xlen a) <<< 8)

/-- Store the low `n` bytes of `v` from `a` upward, the least significant at the lowest address (log 26). -/
def storeBytes (x : Xlen) : Nat → Word → Word → Cpu → Cpu
  | 0, _, _, c => c
  | n + 1, a, v, c => storeBytes x n (nextAddr x a) (v >>> 8) (putByte c a (v.setWidth 8))

/-- The `i`-th address of a data access at `a`. -/
def accessAddr (x : Xlen) (a : Word) : Nat → Word
  | 0 => a
  | i + 1 => accessAddr x (nextAddr x a) i

/-! ## The reference translation service (20_memory.md R31; 95_test_vectors.md "The mock collaborators"; log 6) -/

/-- The number of the page of an address. -/
def pageOf (a : Word) : Nat := a.toNat / Config.tcPageSize

/-- The tag of a page in the list of unmapped pages. -/
def tagOf : List (Nat × FetchTag) → Nat → Option FetchTag
  | [], _ => none
  | (p, k) :: m, q => if q = p then some k else tagOf m q

/-- `Translate(a)`: succeeds iff the page of `a` is mapped and answers the page number. -/
def refTranslate (c : Cpu) (a : Word) : Except FetchTag Nat :=
  match tagOf c.unmapped (pageOf a) with
  | some k => .error k
  | none => .ok (pageOf a)

/-- The backing address of `a` through an entry: the entry's page, the offset of `a` in its page. -/
def backing (e : Nat) (a : Word) : Word := BitVec.ofNat 64 (e * Config.tcPageSize + a.toNat % Config.tcPageSize)

/-- `ReadHalf(e, a)`: two bytes through entry `e`, little-endian (R32). -/
def refReadHalf (c : Cpu) (e : Nat) (a : Word) : Half := halfOf (byteAt c (backing e a)) (byteAt c (backing e (a + 1)))

/-- The tag of the first byte of a data access whose page is unmapped (log 10). -/
def dataFault (c : Cpu) : Nat → Word → Option FetchTag
  | 0, _ => none
  | n + 1, a =>
    match tagOf c.unmapped (pageOf a) with
    | some k => some k
    | none => dataFault c n (nextAddr c.xlen a)

/-- Why a data access raises: its address is misaligned, or a page of it is unmapped (R203). -/
inductive DataTrap where
  | misaligned
  | unmapped (k : FetchTag)
deriving DecidableEq, Repr

/-- Is `a` no multiple of the `n` bytes that the access moves, on a machine where that raises (R203, log 9)? -/
def misalignedAt (c : Cpu) (n : Nat) (a : Word) : Bool := c.align == .raises && a.toNat % n != 0

/-- Why an access of `n` bytes at `a` raises, if it does: alignment first, then the pages (the handler chooses, R207; logs 9,
10). -/
def dataTrap (c : Cpu) (n : Nat) (a : Word) : Option DataTrap :=
  if misalignedAt c n a then some .misaligned else (dataFault c n a).map .unmapped

/-- The trap kind of a load (R203, R204). -/
def loadTrap : DataTrap → TrapKind
  | .misaligned => .loadAddressMisaligned
  | .unmapped .access => .loadAccessFault
  | .unmapped .page => .loadPageFault

/-- The trap kind of a store (R203, R204). -/
def storeTrap : DataTrap → TrapKind
  | .misaligned => .storeAddressMisaligned
  | .unmapped .access => .storeAccessFault
  | .unmapped .page => .storePageFault

/-! ## Handlers' answers (44_dispatch_loop.md R154) -/

/-- What a handler answers, with the CPU state it leaves. -/
inductive Answer where
  | done (taken : Bool) (c : Cpu)
  | raise (kind : TrapKind) (value : Word) (c : Cpu)
deriving DecidableEq, Repr

/-- What calling a handler or `Deliver` comes to: it never returns, or it issues a host command from inside the pass
(93_implementation_defined.md U6), or it returns. -/
inductive Reply (α : Type) where
  | hangs
  | commands
  | returns (a : α)
deriving DecidableEq, Repr, Inhabited

/-- A load of `n` bytes at `a` into x[rd]; a fault is raised before anything is written (R236 (e); logs 9, 10). -/
def loadAnswer (c : Cpu) (rd : BitVec 5) (a : Word) (n : Nat) (extend : Word → Word) : Answer :=
  match dataTrap c n a with
  | some k => .raise (loadTrap k) a c
  | none => .done false (writeX c rd (extend (loadBytes c n a)))

/-- A store of the low `n` bytes of `v` at `a`; a fault is raised before anything is written (R236 (e); logs 9, 10). -/
def storeAnswer (c : Cpu) (a : Word) (n : Nat) (v : Word) : Answer :=
  match dataTrap c n a with
  | some k => .raise (storeTrap k) a c
  | none => .done false (storeBytes c.xlen n a v c)

/-! ## Taking a trap (60_exceptions.md R208; log 13) -/

/-- The reference value of TRAP_CODE, the numbering of trap kinds (00_scope.md R4, 60_exceptions.md R204; log 15). -/
def trapCode : TrapKind → Nat
  | .instructionAddressMisaligned => 0
  | .instructionFetchFault .access => 1
  | .illegalInstruction => 2
  | .breakpoint => 3
  | .loadAddressMisaligned => 4
  | .loadAccessFault => 5
  | .storeAddressMisaligned => 6
  | .storeAccessFault => 7
  | .envCallU => 8
  | .envCallS => 9
  | .envCallM => 11
  | .instructionFetchFault .page => 12
  | .loadPageFault => 13
  | .storePageFault => 15
  | .other n => 24 + n

/-- The environment call of a privilege mode (R342, R203). -/
def envCall : Priv → TrapKind
  | .user => .envCallU
  | .supervisor => .envCallS
  | .machine => .envCallM

/-- Does a trap with code `n` go to S? Not from M; else when its bit of `medeleg` is set. -/
def delegated (c : Cpu) (n : Nat) : Bool := c.priv != .machine && bitAt (csrGet c csrMedeleg) n

/-- The address that a trap vector names: its low two bits cleared; a vector that holds zero is not configured and leaves
`pc` alone (log 14). -/
def vectorPc (c : Cpu) (v : Word) : Word := if v = 0#64 then c.pc else wrapAddr c.xlen (v &&& ~~~3#64)

/-- Trap entry into M with code `n`: saved pc, cause, value, status, mode, vector. -/
def enterM (c : Cpu) (n : Nat) (value : Word) : Cpu :=
  let c1 := csrPut c csrMepc c.pc
  let c2 := csrPut c1 csrMcause (BitVec.ofNat 64 n)
  let c3 := csrPut c2 csrMtval value
  let c4 := csrPut c3 csrMstatus (statusEnterM (csrGet c csrMstatus) c.priv)
  { c4 with priv := .machine, pc := vectorPc c (csrGet c csrMtvec) }

/-- Trap entry into S with code `n`: saved pc, cause, value, status, mode, vector. -/
def enterS (c : Cpu) (n : Nat) (value : Word) : Cpu :=
  let c1 := csrPut c csrSepc c.pc
  let c2 := csrPut c1 csrScause (BitVec.ofNat 64 n)
  let c3 := csrPut c2 csrStval value
  let c4 := csrPut c3 csrMstatus (statusEnterS (csrGet c csrMstatus) c.priv)
  { c4 with priv := .supervisor, pc := vectorPc c (csrGet c csrStvec) }

/-- `Deliver(kind, value)` for any TRAP_CODE (00_scope.md R4): trap entry, with `pc` at the trapping instruction. -/
def deliverWith (code : TrapKind → Nat) (k : TrapKind) (value : Word) (c : Cpu) : Cpu :=
  if delegated c (code k) then enterS c (code k) value else enterM c (code k) value

/-- `Deliver` of the reference machine, with the reference numbering. -/
def deliver (k : TrapKind) (value : Word) (c : Cpu) : Cpu := deliverWith trapCode k value c

/-- `trap(kind, value)` for any `Deliver` (44_dispatch_loop.md R160): `pc` back to `pc0`, then the call, then IDLE. -/
def trapWith (dlv : TrapKind → Word → Cpu → Cpu) (k : TrapKind) (value : Word) (s : State) : State :=
  { s with
    cpu := dlv k value { s.cpu with pc := s.lat.pc0 }
    phase := .idle
    outcome := some (.trapped k value)
    calls := s.calls ++ [.deliver k value] }

/-- Taking an exception on the reference machine. -/
def takeTrap (k : TrapKind) (value : Word) (s : State) : State := trapWith deliver k value s

/-! ## Returning from a trap (60_exceptions.md R210; R407, R408; log 16) -/

/-- Return from a machine trap: `pc`, mode and interrupt enable restored. -/
def returnM (c : Cpu) : Cpu :=
  let v := csrGet c csrMstatus
  writePc { csrPut c csrMstatus (statusMret v) with priv := privOfBits (mppOf v) } (evenAddr (csrGet c csrMepc))

/-- Return from a supervisor trap: `pc`, mode and interrupt enable restored. -/
def returnS (c : Cpu) : Cpu :=
  let v := csrGet c csrMstatus
  writePc { csrPut c csrMstatus (statusSret v) with priv := sretPriv v } (evenAddr (csrGet c csrSepc))

end Sys2Proof.Machine
end

