-- ==== Sys2Proof/Machine/Operands.lean ====
section
/-! DEFINITION. Operand forms: compressed register numbers, immediates as 64-bit values, effective addresses, control-flow
targets; and the operations on register values at the active width and at 32 bits. -/

namespace Sys2Proof.Machine

/-! ## Operands -/

/-- The register that a 3-bit compressed number stands for: 8 more (10_state.md R20). -/
def creg (r : BitVec 3) : BitVec 5 := r.setWidth 5 + 8

/-- A signed immediate as a 64-bit value (43_application.md R131). -/
def simm {n : Nat} (v : BitVec n) : Word := v.signExtend 64

/-- An unsigned immediate as a 64-bit value (43_application.md R131). -/
def uimm {n : Nat} (v : BitVec n) : Word := v.setWidth 64

/-- The effective address x[base] + offset of a load or a store (R311). -/
def effAddr (c : Cpu) (base : BitVec 5) (off : Word) : Word := wrapAddr c.xlen (readX c base + off)

/-- The target pc0 + offset of a direct jump or of a branch (R303, R305). -/
def relTarget (pc0 off : Word) : Word := pc0 + off

/-- The target of a jump to a register plus an offset: bit 0 cleared (R304, R488, R491). -/
def regTarget (c : Cpu) (base : BitVec 5) (off : Word) : Word := evenAddr (readX c base + off)

/-! ## Operations on values of `w` bits -/

def opAdd (w : Nat) (a b : BitVec w) : BitVec w := a + b
def opSub (w : Nat) (a b : BitVec w) : BitVec w := a - b
def opXor (w : Nat) (a b : BitVec w) : BitVec w := a ^^^ b
def opOr (w : Nat) (a b : BitVec w) : BitVec w := a ||| b
def opAnd (w : Nat) (a b : BitVec w) : BitVec w := a &&& b
/-- Shift by a register: the amount is taken modulo the width (R333). -/
def opSll (w : Nat) (a b : BitVec w) : BitVec w := a <<< (b.toNat % w)
/-- Logical right shift by a register (R337). -/
def opSrl (w : Nat) (a b : BitVec w) : BitVec w := a >>> (b.toNat % w)
/-- Arithmetic right shift by a register (R338). -/
def opSra (w : Nat) (a b : BitVec w) : BitVec w := a.sshiftRight (b.toNat % w)
/-- Shift by an immediate: the amount as it stands (R325). -/
def opSlli (w : Nat) (a b : BitVec w) : BitVec w := a <<< b.toNat
/-- Logical right shift by an immediate (R326). -/
def opSrli (w : Nat) (a b : BitVec w) : BitVec w := a >>> b.toNat
/-- Arithmetic right shift by an immediate (R327). -/
def opSrai (w : Nat) (a b : BitVec w) : BitVec w := a.sshiftRight b.toNat
/-- A comparison as a 0 or 1 result (R320). -/
def opCond (f : (w : Nat) → BitVec w → BitVec w → Bool) (w : Nat) (a b : BitVec w) : BitVec w := if f w a b then 1 else 0
/-- Low half of the product (R411). -/
def opMul (w : Nat) (a b : BitVec w) : BitVec w := a * b
/-- High half of the signed product (R412). -/
def opMulh (w : Nat) (a b : BitVec w) : BitVec w := (a.signExtend (w + w) * b.signExtend (w + w)).extractLsb' w w
/-- High half of the product of a signed and an unsigned value (R413). -/
def opMulhsu (w : Nat) (a b : BitVec w) : BitVec w := (a.signExtend (w + w) * b.setWidth (w + w)).extractLsb' w w
/-- High half of the unsigned product (R414). -/
def opMulhu (w : Nat) (a b : BitVec w) : BitVec w := (a.setWidth (w + w) * b.setWidth (w + w)).extractLsb' w w
/-- Signed quotient; all ones when the divisor is zero (R415). An inexact one is rounded toward zero: DEDUCED, unsafe (log 23). -/
def opDiv (w : Nat) (a b : BitVec w) : BitVec w := if b = 0 then BitVec.allOnes w else a.sdiv b
/-- Unsigned quotient; all ones when the divisor is zero (R416). -/
def opDivu (w : Nat) (a b : BitVec w) : BitVec w := if b = 0 then BitVec.allOnes w else a / b
/-- Signed remainder, with the sign of the dividend (95_test_vectors.md P5); the dividend when the divisor is zero (R417); 0 when
the quotient overflows (log 23). -/
def opRem (w : Nat) (a b : BitVec w) : BitVec w := if b = 0 then a else a.srem b
/-- Unsigned remainder; the dividend when the divisor is zero (R418). -/
def opRemu (w : Nat) (a b : BitVec w) : BitVec w := if b = 0 then a else a % b

/-- A quotient or remainder of the word forms: `f` when the divisor is not zero, else the free value (R420 to R423, log 23). -/
def divisionOr (free : BitVec 32 → BitVec 32) (f : BitVec 32 → BitVec 32 → BitVec 32) (a b : BitVec 32) : BitVec 32 :=
  if b = 0 then free a else f a b

/-! ## Operations at a width -/

/-- An operation at the active width: on the low `xlen` bits of both values (log 7); `writeX` extends the result. -/
def aluAt (x : Xlen) (f : (w : Nat) → BitVec w → BitVec w → BitVec w) (a b : Word) : Word :=
  match x with
  | .w32 => (f 32 (a.setWidth 32) (b.setWidth 32)).setWidth 64
  | .w64 => f 64 a b

/-- An operation on the low 32 bits, its result sign-extended: the `W` forms (R347 to R355, R419 to R423). -/
def aluWord (f : (w : Nat) → BitVec w → BitVec w → BitVec w) (a b : Word) : Word :=
  (f 32 (a.setWidth 32) (b.setWidth 32)).signExtend 64

/-- The value of a load of `n` bits, sign-extended (R311). -/
def loadSigned (n : Nat) (v : Word) : Word := (v.setWidth n).signExtend 64

/-- The value of a load of `n` bits, zero-extended (R314). -/
def loadUnsigned (n : Nat) (v : Word) : Word := (v.setWidth n).setWidth 64

/-! ## Answers of one shape -/

/-- x[rd] <- v. -/
def writeAnswer (c : Cpu) (rd : BitVec 5) (v : Word) : Answer := .done false (writeX c rd v)

/-- x[rd] <- f x[rs1] b, at the active width. -/
def aluAnswer (f : (w : Nat) → BitVec w → BitVec w → BitVec w) (c : Cpu) (rd rs1 : BitVec 5) (b : Word) : Answer :=
  writeAnswer c rd (aluAt c.xlen f (readX c rs1) b)

/-- x[rd] <- sext_32(f x[rs1][31:0] b[31:0]). -/
def wordAnswer (f : (w : Nat) → BitVec w → BitVec w → BitVec w) (c : Cpu) (rd rs1 : BitVec 5) (b : Word) : Answer :=
  writeAnswer c rd (aluWord f (readX c rs1) b)

/-- x[rd] <- sext_32(f x[rs1][31:0] x[rs2][31:0]), or sext_32 of the free value when the divisor is zero (R420, log 23). -/
def wordDivAnswer (free : BitVec 32 → BitVec 32) (f : BitVec 32 → BitVec 32 → BitVec 32) (c : Cpu) (rd rs1 rs2 : BitVec 5) : Answer :=
  writeAnswer c rd ((divisionOr free f ((readX c rs1).setWidth 32) ((readX c rs2).setWidth 32)).signExtend 64)

/-- If the condition holds, pc <- pc0 + offset and `Done(true)`; else `Done(false)` (R305). -/
def branchAnswer (c : Cpu) (holds : Bool) (pc0 off : Word) : Answer :=
  if holds then .done true (writePc c (relTarget pc0 off)) else .done false c

/-- x[rd] <- pc0 + width; pc <- target (R303, R304). -/
def jumpAnswer (c : Cpu) (rd : BitVec 5) (width pc0 target : Word) : Answer :=
  .done false (writePc (writeX c rd (pc0 + width)) target)

/-- Raise `IllegalInstruction` with the opcode word (R202, R203; log 17). -/
def illegalAnswer (c : Cpu) (i : Instr) : Answer := .raise .illegalInstruction ((encode i).setWidth 64) c

/-- t <- CSR[n]; CSR[n] <- f t, if it writes; x[rd] <- t; or the trap of an inaccessible CSR (R401). -/
def csrAnswer (c : Cpu) (i : Instr) (rd : BitVec 5) (n : BitVec 12) (write : Bool) (f : Word → Word) : Answer :=
  if csrAllowed c n write then
    let t := csrRead c n
    let c1 := if write then csrWrite c n (f t) else c
    .done false (writeX c1 rd t)
  else illegalAnswer c i

end Sys2Proof.Machine
end

