-- ==== Sys2Proof/Machine/Tree.lean ====
section
/-! DEFINITION. The decoder tree builder BUILD (41_tree_builder.md) and the traversal `decide` (42_tree_traversal.md). -/

namespace Sys2Proof.Machine

/-- Bits some candidate still fixes, outside the tested set (`R` of R104). -/
def someFixed (cs : List Declaration) (k : Opcode) : Opcode := cs.foldl (fun m d => m ||| (d.mask &&& ~~~k)) 0

/-- Bits every candidate still fixes, outside the tested set (`A` of R104). -/
def allFixed (cs : List Declaration) (k : Opcode) : Opcode :=
  cs.foldl (fun m d => m &&& d.mask) (BitVec.allOnes 32) &&& ~~~k

/-- The index of the lowest 1 bit, searched from `i` with `n` positions left. -/
def lowestFrom (s : Opcode) (i : Nat) : Nat → Nat
  | 0 => i
  | n + 1 => if s.getLsbD i then i else lowestFrom s (i + 1) n

/-- The index of the lowest 1 bit. -/
def lowestBit (s : Opcode) : Nat := lowestFrom s 0 32

/-- The number of consecutive 1 bits from `i` upward, at most `cap`. -/
def runLength (s : Opcode) (i : Nat) : Nat → Nat
  | 0 => 0
  | cap + 1 => if s.getLsbD i then runLength s (i + 1) cap + 1 else 0

/-- The candidates that can match a word with value `v` in the group `g` at `lo` (R106). -/
def childCandidates (cs : List Declaration) (lo v : Nat) (g : Opcode) : List Declaration :=
  cs.filter (fun d => (d.pattern ^^^ BitVec.ofNat 32 (v <<< lo)) &&& d.mask &&& g == 0)

/-- The greatest number of fixed bits among the candidates. -/
def maxFixedBits (cs : List Declaration) : Nat := cs.foldl (fun n d => max n d.fixedBits) 0

/-- The candidates that attain it (R110). -/
def topCandidates (cs : List Declaration) : List Declaration := cs.filter (fun d => d.fixedBits == maxFixedBits cs)

/-- `leaf(C)`: the arena, extended, and the leaf's index; the illegal leaf is index 0 (R108 to R110). -/
def buildLeaf (cs : List Declaration) (arena : List Node) : Except Fault (List Node × Nat) :=
  match topCandidates cs with
  | [] => .ok (arena, 0)
  | [b] =>
    match resultOf b with
    | .illegal => .ok (arena, 0)
    | .decl d => .ok (arena ++ [.leaf (.decl d)], arena.length)
    | .nop d => .ok (arena ++ [.leaf (.nop d)], arena.length)
  | b1 :: b2 :: bs => .error (.ambiguousDeclarations ((b1 :: b2 :: bs).map Declaration.mnemonic))

/-- The children for the values `v, v + 1, …`, `n` of them, built by `mk` in ascending order (R104). -/
def buildChildren (mk : Nat → List Node → Except Fault (List Node × Nat)) :
    Nat → Nat → List Node → Except Fault (List Node × List Nat)
  | 0, _, arena => .ok (arena, [])
  | n + 1, v, arena =>
    match mk v arena with
    | .error e => .error e
    | .ok (arena1, c) =>
      match buildChildren mk n (v + 1) arena1 with
      | .error e => .error e
      | .ok (arena2, cs) => .ok (arena2, c :: cs)

/-- An internal node on `n` bits from `lo`: a branch for one bit, else a switch (R105). -/
def mkNode (lo n : Nat) (child : List Nat) : Node :=
  if n = 1 then .branch lo (child.getD 0 0) (child.getD 1 0) else .switch lo n child

/-- `node(C, K)` (R104), on fuel: each recursive call tests at least one more of the 32 bits (R111), so 33 units suffice.
`cap` is SWITCH_MAX_BITS. -/
def buildNode (cap : Nat) : Nat → List Declaration → Opcode → List Node → Except Fault (List Node × Nat)
  | 0, cs, _, arena => buildLeaf cs arena
  | fuel + 1, cs, k, arena =>
    if cs.isEmpty then .ok (arena, 0)
    else if someFixed cs k = 0 then buildLeaf cs arena
    else
      let s := if allFixed cs k = 0 then someFixed cs k else allFixed cs k
      let lo := lowestBit s
      let n := runLength s lo (if allFixed cs k = 0 then 1 else cap)
      let g := bitRange (lo + n - 1) lo
      match buildChildren (fun v ar => buildNode cap fuel (childCandidates cs lo v g) (k ||| g) ar) (2 ^ n) 0
          (arena ++ [.leaf .illegal]) with
      | .error e => .error e
      | .ok (arena1, child) => .ok (arena1.set arena.length (mkNode lo n child), arena.length)

/-- `BUILD(D)` with SWITCH_MAX_BITS = `cap`: the checks of R83 and R84, then the recursion (R100, R102, R104). -/
def buildWith (cap : Nat) (ds : List Declaration) : Except Fault Tree :=
  match ds.find? (fun d => !d.wf) with
  | some d => .error (.malformedDeclaration d.mnemonic)
  | none =>
    if variantSetWf ds then
      match buildNode cap 33 ds 0 [.leaf .illegal] with
      | .error e => .error e
      | .ok (arena, root) => .ok { arena := arena, root := root }
    else .error .malformedSet

/-- `BUILD(D)` (R100). -/
def build (ds : List Declaration) : Except Fault Tree := buildWith Config.switchMaxBits ds

/-- The value of `opcode[lo + n - 1 : lo]`. -/
def groupValue (w : Opcode) (lo n : Nat) : Nat := (w.toNat >>> lo) % 2 ^ n

/-- One step of the traversal: the next index, or the leaf's result (R121). An index outside the arena, which no built tree
has (R109), is the illegal leaf. -/
def decideStep (t : Tree) (w : Opcode) (i : Nat) : Nat ⊕ DecideResult :=
  match t.arena[i]? with
  | some (.leaf r) => .inr r
  | some (.branch bit c0 c1) => .inl (if w.getLsbD bit then c1 else c0)
  | some (.switch lo n child) => .inl (child.getD (groupValue w lo n) 0)
  | none => .inr .illegal

/-- The traversal from index `i`, on fuel. -/
def decideFrom (t : Tree) (w : Opcode) : Nat → Nat → DecideResult
  | 0, _ => .illegal
  | fuel + 1, i =>
    match decideStep t w i with
    | .inr r => r
    | .inl j => decideFrom t w fuel j

/-- `decide(T, opcode)` (R120, R121). A built tree has at most 32 internal nodes on a path (R111, R124), so 33 units reach
its leaf; a tree that is not built may exhaust them and is answered `Illegal` (log 22). -/
def decideTree (t : Tree) (w : Opcode) : DecideResult := decideFrom t w 33 t.root

end Sys2Proof.Machine
end

