-- ==== Sys2Proof/Machine/Loop.lean ====
section
/-! DEFINITION. The dispatch loop StepOne of 44_dispatch_loop.md, for any collaborators: one function per state of the state
machine (R163), the single transition, and the pass that composes them (R140). -/

namespace Sys2Proof.Machine

/-- The outcome type of every step and stage. -/
abbrev Result := Host.Outcome State Fault Refusal

/-- The external collaborators as the loop calls them (00_scope.md R3, 10_state.md R25): the page size of the translation
cache, `Translate`, `ReadHalf`, the handlers and `Deliver`. Any functions will do. A handler and `Deliver` may also never return
or issue a host command (`Reply`); translation and reads are synchronous and never block (00_scope.md R8). DESIGN CHOICE, unsafe
(log 35): `Translate` and `ReadHalf` answer with no new state, so they have no side effect on a cache or a device. -/
structure Collaborators where
  pageSize  : Nat
  translate : Cpu → Word → Except FetchTag Nat
  readHalf  : Cpu → Nat → Word → Half
  handler   : HandlerRef → List Word → Cpu → Reply Answer
  deliver   : TrapKind → Word → Cpu → Reply Cpu

/-- Go on with what a call returns; a call that never returns leaves the pass stuck, and one that issues a host command is
refused (93_implementation_defined.md U6). -/
def afterCall {α : Type} (f : α → Result) (r : Reply α) : Result :=
  match r with
  | .hangs => .fault .stuck
  | .commands => .refused .commandInPass
  | .returns a => f a

/-- `trap(kind, value)` through any `Deliver` (R160). -/
def raiseTrap (dlv : TrapKind → Word → Cpu → Reply Cpu) (k : TrapKind) (value : Word) (s : State) : Result :=
  afterCall (fun u => .next (trapWith (fun _ _ _ => u) k value s)) (dlv k value { s.cpu with pc := s.lat.pc0 })

/-! ## Small operations on the state -/

/-- `pc <- v` by the loop (00_scope.md R6). -/
def setPc (v : Word) (s : State) : State := { s with cpu := { s.cpu with pc := v } }

/-- Append a call to the record of the pass (20_memory.md R40). -/
def noteCall (c : Call) (s : State) : State := { s with calls := s.calls ++ [c] }

/-- Outcome `Retired`; the block is ready for the next pass (R161). -/
def retire (s : State) : State := { s with phase := .idle, outcome := some .retired }

/-- A width of an encoding as a 64-bit value. -/
def widthWord (n : Nat) : Word := BitVec.ofNat 64 n

/-- The default advance `pc <- pc0 + width` (R156). -/
def advance (width : Nat) (s : State) : State := setPc (s.lat.pc0 + widthWord width) s

/-! ## Step start (R141, R142) -/

/-- Is `pc0` in the breakpoint set? `None` and the empty set behave alike (45_host_operations.md R176). -/
def breakpointAt (bp : Option (List Word)) (a : Word) : Bool :=
  match bp with
  | none => false
  | some l => l.contains a

/-- The start of a pass: an odd `pc` is refused (20_memory.md R33); `pc` and `xlen` are latched; a breakpoint ends the pass;
else FETCH. -/
def startStage (s : State) : Result :=
  if s.phase ≠ .idle then .refused .notIdle
  else if isOdd s.cpu.pc then .refused .oddPc
  else
    let s1 := { s with lat := { s.lat with pc0 := s.cpu.pc, xlen0 := s.cpu.xlen }, calls := [] }
    if breakpointAt s.bp s.cpu.pc then .next { s1 with outcome := some (.breakpointHit s.cpu.pc) }
    else .next { s1 with phase := .fetch, outcome := none }

/-! ## FETCH (R143 to R147) -/

/-- Does the second half-word lie in the next page (20_memory.md R35)? -/
def crossesPage (pageSize : Nat) (pc0 : Word) : Bool := pc0.toNat % pageSize == pageSize - 2

/-- Both halves read: the 4-byte opcode, on to DECODE. -/
def fetchedLong (lo hi : Half) (s : State) : State :=
  { s with phase := .decode, lat := { s.lat with lo16 := lo, hi16 := hi, opcode := longOpcode lo hi, ilen := 4 } }

/-- A 2-byte opcode, on to DECODE (R144). -/
def fetchedShort (lo : Half) (s : State) : State :=
  { s with phase := .decode, lat := { s.lat with lo16 := lo, opcode := shortOpcode lo, ilen := 2 } }

/-- Read the second half-word at `a2` through an entry (R145, R146). -/
def fetchSecond (c : Collaborators) (lo : Half) (e : Nat) (a2 : Word) (s : State) : State :=
  fetchedLong lo (c.readHalf s.cpu e a2) (noteCall (.readHalf a2) s)

/-- FETCH. -/
def fetchStage (c : Collaborators) (s : State) : Result :=
  let pc0 := s.lat.pc0
  let s1 := noteCall (.translate pc0) s
  match c.translate s.cpu pc0 with
  | .error k => raiseTrap c.deliver (.instructionFetchFault k) pc0 s1
  | .ok e =>
    let lo := c.readHalf s.cpu e pc0
    let s2 := noteCall (.readHalf pc0) s1
    if isLong lo then
      let a2 := pc0 + 2
      if crossesPage c.pageSize pc0 then
        let s3 := noteCall (.translate a2) s2
        match c.translate s.cpu a2 with
        | .error k => raiseTrap c.deliver (.instructionFetchFault k) a2 s3
        | .ok e2 => .next (fetchSecond c lo e2 a2 s3)
      else .next (fetchSecond c lo e a2 s2)
    else .next (fetchedShort lo s2)

/-! ## DECODE (R148 to R150) -/

/-- The tree of a width (R148). -/
def treeOf (s : State) (x : Xlen) : Tree :=
  match x with
  | .w32 => s.tree32
  | .w64 => s.tree64

/-- The result of `decide` written to latch `res`. -/
def setRes (r : DecideResult) (s : State) : State := { s with lat := { s.lat with res := r } }

/-- DECODE: an illegal result traps with the opcode (R149), a no-op leaf advances and retires (R150), a declaration goes on. -/
def decodeStage (c : Collaborators) (s : State) : Result :=
  let r := decideTree (treeOf s s.lat.xlen0) s.lat.opcode
  let s1 := setRes r s
  match r with
  | .illegal => raiseTrap c.deliver .illegalInstruction (s.lat.opcode.setWidth 64) s1
  | .nop d => .next (retire (advance d.width s1))
  | .decl _ => .next { s1 with phase := .extract }

/-! ## EXTRACT-ARGS (R151, R152) -/

/-- `bind[m]`. -/
def bindOf (l : List Binding) (m : Mnemonic) : Option Binding := l.find? (fun b => b.mnemonic == m)

/-- The operands, then the width, then `pc0`, as the handler's flags ask (R152). -/
def argsFor (b : Binding) (d : Declaration) (w : Opcode) (pc0 : Word) : List Word :=
  apply d w ++ (if b.needsWidth then [widthWord d.width] else []) ++ (if b.needsPc then [pc0] else [])

/-- EXTRACT-ARGS. -/
def extractStage (s : State) : Result :=
  match s.lat.res with
  | .decl d =>
    match bindOf s.bind d.mnemonic with
    | some b => .next { s with phase := .execute, lat := { s.lat with args := argsFor b d s.lat.opcode s.lat.pc0 } }
    | none => .refused (.unbound d.mnemonic)
  | .nop _ => .refused .noDeclaration
  | .illegal => .refused .noDeclaration

/-! ## EXECUTE (R153 to R155) -/

/-- What the loop makes of a handler's answer: a raise traps, else UPDATE. -/
def takeAnswer (dlv : TrapKind → Word → Cpu → Reply Cpu) (s : State) (a : Answer) : Result :=
  match a with
  | .raise k v c => raiseTrap dlv k v { s with cpu := c, lat := { s.lat with out := .raise k v } }
  | .done t c => .next { s with cpu := c, phase := .update, lat := { s.lat with out := .done t } }

/-- EXECUTE: the handler bound to the declaration's mnemonic is called once. -/
def executeStage (c : Collaborators) (s : State) : Result :=
  match s.lat.res with
  | .decl d =>
    match bindOf s.bind d.mnemonic with
    | some b =>
      afterCall (takeAnswer c.deliver (noteCall (.handler b.handler s.lat.args) s)) (c.handler b.handler s.lat.args s.cpu)
    | none => .refused (.unbound d.mnemonic)
  | .nop _ => .refused .noDeclaration
  | .illegal => .refused .noDeclaration

/-! ## UPDATE-PC (R156 to R159) -/

/-- Does the loop write `pc` (R156)? Not after a taken branch (R157), a jump (R158) or a trap-boundary instruction (R159). -/
def advances (k : PcClass) (taken : Bool) : Bool :=
  match k with
  | .seq => true
  | .branch => !taken
  | .jump => false
  | .trapBoundary => false

/-- UPDATE-PC for a class and a width, after `Done(taken)`. -/
def updatePc (k : PcClass) (width : Nat) (taken : Bool) (s : State) : State :=
  retire (if advances k taken then advance width s else s)

/-- The flag `taken` of latch `out`. -/
def takenOf : HandlerOut → Bool
  | .done t => t
  | .raise _ _ => false

/-- UPDATE-PC-OR-TRAP. -/
def updateStage (s : State) : Result :=
  match s.lat.res with
  | .decl d => .next (updatePc d.pcclass d.width (takenOf s.lat.out) s)
  | .nop _ => .refused .noDeclaration
  | .illegal => .refused .noDeclaration

/-- EXECUTE and UPDATE together, for a declaration's class and width and a handler's answer: what every meaning ends with. -/
def conclude (dlv : TrapKind → Word → Cpu → Cpu) (k : PcClass) (width : Nat) (s : State) (a : Answer) : State :=
  match a with
  | .raise kind v c => trapWith dlv kind v { s with cpu := c, lat := { s.lat with out := .raise kind v } }
  | .done t c => updatePc k width t { s with cpu := c, lat := { s.lat with out := .done t } }

/-! ## The state machine and the pass -/

/-- One transition of the table of R163. From IDLE it is the start of a pass. -/
def transition (c : Collaborators) (s : State) : Result :=
  match s.phase with
  | .unbuilt => .refused .notIdle
  | .fatal => .refused .notIdle
  | .idle => startStage s
  | .fetch => fetchStage c s
  | .decode => decodeStage c s
  | .extract => extractStage s
  | .execute => executeStage c s
  | .update => updateStage s

/-- At most `n` transitions, until the block is IDLE again or refuses. -/
def transitions (c : Collaborators) : Nat → State → Result
  | 0, s => .next s
  | n + 1, s =>
    match transition c s with
    | .next t => if t.phase = .idle then .next t else transitions c n t
    | .fault r => .fault r
    | .refused r => .refused r

/-- Go on with `f` when the outcome is a state in phase `p`; any other outcome stays. -/
def continueAt (p : Phase) (f : State → Result) (o : Result) : Result :=
  match o with
  | .next s => if s.phase = p then f s else .next s
  | .fault r => .fault r
  | .refused r => .refused r

/-- The part of a pass up to EXECUTE (R141 to R152). -/
def beforeExecute (c : Collaborators) (s : State) : Result :=
  continueAt .extract extractStage (continueAt .decode (decodeStage c) (continueAt .fetch (fetchStage c) (startStage s)))

/-- The part of a pass from EXECUTE on (R153 to R160). -/
def fromExecute (c : Collaborators) (o : Result) : Result :=
  continueAt .update updateStage (continueAt .execute (executeStage c) o)

/-- StepOne for any collaborators (R140). -/
def pass (c : Collaborators) (s : State) : Result := fromExecute c (beforeExecute c s)

end Sys2Proof.Machine
end

