-- ==== Sys2Proof/Machine/Alu.lean ====
section
/-! DEFINITION. LUI, AUIPC, the immediate and register operations and their `W` forms (46_reference_rv_base.md): for each instruction its handler (the
"Conventional meaning" of its rule, log 1) and its meaning, EXECUTE and UPDATE-PC of a pass (44_dispatch_loop.md R153 to
R160) with that handler. -/

namespace Sys2Proof.Machine

/-- Handler of `LUI` (R301): x[rd] <- imm. -/
def handleLui (rd : BitVec 5) (imm : BitVec 32) (c : Cpu) : Answer :=
  writeAnswer c rd (simm imm)
/-- `LUI` (R301). -/
def execLui (rd : BitVec 5) (imm : BitVec 32) (s : State) : Result :=
  .next (conclude deliver .seq 4 s (handleLui rd imm s.cpu))

/-- Handler of `AUIPC` (R302): x[rd] <- pc0 + imm. -/
def handleAuipc (rd : BitVec 5) (imm : BitVec 32) (pc0 : Word) (c : Cpu) : Answer :=
  writeAnswer c rd (pc0 + simm imm)
/-- `AUIPC` (R302). -/
def execAuipc (rd : BitVec 5) (imm : BitVec 32) (s : State) : Result :=
  .next (conclude deliver .seq 4 s (handleAuipc rd imm s.lat.pc0 s.cpu))

/-- Handler of `ADDI` (R319): x[rd] <- x[rs1] + imm. -/
def handleAddi (rd rs1 : BitVec 5) (imm : BitVec 12) (c : Cpu) : Answer :=
  aluAnswer opAdd c rd rs1 (simm imm)
/-- `ADDI` (R319). -/
def execAddi (rd rs1 : BitVec 5) (imm : BitVec 12) (s : State) : Result :=
  .next (conclude deliver .seq 4 s (handleAddi rd rs1 imm s.cpu))

/-- Handler of `SLTI` (R320): x[rd] <- (x[rs1] <s imm) ? 1 : 0. -/
def handleSlti (rd rs1 : BitVec 5) (imm : BitVec 12) (c : Cpu) : Answer :=
  aluAnswer (opCond condLt) c rd rs1 (simm imm)
/-- `SLTI` (R320). -/
def execSlti (rd rs1 : BitVec 5) (imm : BitVec 12) (s : State) : Result :=
  .next (conclude deliver .seq 4 s (handleSlti rd rs1 imm s.cpu))

/-- Handler of `SLTIU` (R321): x[rd] <- (x[rs1] <u imm taken as unsigned xlen bits) ? 1 : 0. -/
def handleSltiu (rd rs1 : BitVec 5) (imm : BitVec 12) (c : Cpu) : Answer :=
  aluAnswer (opCond condLtu) c rd rs1 (simm imm)
/-- `SLTIU` (R321). -/
def execSltiu (rd rs1 : BitVec 5) (imm : BitVec 12) (s : State) : Result :=
  .next (conclude deliver .seq 4 s (handleSltiu rd rs1 imm s.cpu))

/-- Handler of `XORI` (R322): x[rd] <- x[rs1] ^ imm. -/
def handleXori (rd rs1 : BitVec 5) (imm : BitVec 12) (c : Cpu) : Answer :=
  aluAnswer opXor c rd rs1 (simm imm)
/-- `XORI` (R322). -/
def execXori (rd rs1 : BitVec 5) (imm : BitVec 12) (s : State) : Result :=
  .next (conclude deliver .seq 4 s (handleXori rd rs1 imm s.cpu))

/-- Handler of `ORI` (R323): x[rd] <- x[rs1] | imm. -/
def handleOri (rd rs1 : BitVec 5) (imm : BitVec 12) (c : Cpu) : Answer :=
  aluAnswer opOr c rd rs1 (simm imm)
/-- `ORI` (R323). -/
def execOri (rd rs1 : BitVec 5) (imm : BitVec 12) (s : State) : Result :=
  .next (conclude deliver .seq 4 s (handleOri rd rs1 imm s.cpu))

/-- Handler of `ANDI` (R324): x[rd] <- x[rs1] & imm. -/
def handleAndi (rd rs1 : BitVec 5) (imm : BitVec 12) (c : Cpu) : Answer :=
  aluAnswer opAnd c rd rs1 (simm imm)
/-- `ANDI` (R324). -/
def execAndi (rd rs1 : BitVec 5) (imm : BitVec 12) (s : State) : Result :=
  .next (conclude deliver .seq 4 s (handleAndi rd rs1 imm s.cpu))

/-- Handler of `SLLI` (RV32 form) (R325): x[rd] <- x[rs1] << shamt. -/
def handleSlli32 (rd rs1 shamt : BitVec 5) (c : Cpu) : Answer :=
  aluAnswer opSlli c rd rs1 (uimm shamt)
/-- `SLLI` (RV32 form) (R325). -/
def execSlli32 (rd rs1 shamt : BitVec 5) (s : State) : Result :=
  .next (conclude deliver .seq 4 s (handleSlli32 rd rs1 shamt s.cpu))

/-- Handler of `SRLI` (RV32 form) (R326): x[rd] <- x[rs1] >>u shamt. -/
def handleSrli32 (rd rs1 shamt : BitVec 5) (c : Cpu) : Answer :=
  aluAnswer opSrli c rd rs1 (uimm shamt)
/-- `SRLI` (RV32 form) (R326). -/
def execSrli32 (rd rs1 shamt : BitVec 5) (s : State) : Result :=
  .next (conclude deliver .seq 4 s (handleSrli32 rd rs1 shamt s.cpu))

/-- Handler of `SRAI` (RV32 form) (R327): x[rd] <- x[rs1] >>s shamt. -/
def handleSrai32 (rd rs1 shamt : BitVec 5) (c : Cpu) : Answer :=
  aluAnswer opSrai c rd rs1 (uimm shamt)
/-- `SRAI` (RV32 form) (R327). -/
def execSrai32 (rd rs1 shamt : BitVec 5) (s : State) : Result :=
  .next (conclude deliver .seq 4 s (handleSrai32 rd rs1 shamt s.cpu))

/-- Handler of `SLLI` (RV64 form) (R328): x[rd] <- x[rs1] << shamt. -/
def handleSlli64 (rd rs1 : BitVec 5) (shamt : BitVec 6) (c : Cpu) : Answer :=
  aluAnswer opSlli c rd rs1 (uimm shamt)
/-- `SLLI` (RV64 form) (R328). -/
def execSlli64 (rd rs1 : BitVec 5) (shamt : BitVec 6) (s : State) : Result :=
  .next (conclude deliver .seq 4 s (handleSlli64 rd rs1 shamt s.cpu))

/-- Handler of `SRLI` (RV64 form) (R329): x[rd] <- x[rs1] >>u shamt. -/
def handleSrli64 (rd rs1 : BitVec 5) (shamt : BitVec 6) (c : Cpu) : Answer :=
  aluAnswer opSrli c rd rs1 (uimm shamt)
/-- `SRLI` (RV64 form) (R329). -/
def execSrli64 (rd rs1 : BitVec 5) (shamt : BitVec 6) (s : State) : Result :=
  .next (conclude deliver .seq 4 s (handleSrli64 rd rs1 shamt s.cpu))

/-- Handler of `SRAI` (RV64 form) (R330): x[rd] <- x[rs1] >>s shamt. -/
def handleSrai64 (rd rs1 : BitVec 5) (shamt : BitVec 6) (c : Cpu) : Answer :=
  aluAnswer opSrai c rd rs1 (uimm shamt)
/-- `SRAI` (RV64 form) (R330). -/
def execSrai64 (rd rs1 : BitVec 5) (shamt : BitVec 6) (s : State) : Result :=
  .next (conclude deliver .seq 4 s (handleSrai64 rd rs1 shamt s.cpu))

/-- Handler of `ADD` (R331): x[rd] <- x[rs1] + x[rs2]. -/
def handleAdd (rd rs1 rs2 : BitVec 5) (c : Cpu) : Answer :=
  aluAnswer opAdd c rd rs1 (readX c rs2)
/-- `ADD` (R331). -/
def execAdd (rd rs1 rs2 : BitVec 5) (s : State) : Result :=
  .next (conclude deliver .seq 4 s (handleAdd rd rs1 rs2 s.cpu))

/-- Handler of `SUB` (R332): x[rd] <- x[rs1] - x[rs2]. -/
def handleSub (rd rs1 rs2 : BitVec 5) (c : Cpu) : Answer :=
  aluAnswer opSub c rd rs1 (readX c rs2)
/-- `SUB` (R332). -/
def execSub (rd rs1 rs2 : BitVec 5) (s : State) : Result :=
  .next (conclude deliver .seq 4 s (handleSub rd rs1 rs2 s.cpu))

/-- Handler of `SLL` (R333): x[rd] <- x[rs1] << (x[rs2] mod xlen). -/
def handleSll (rd rs1 rs2 : BitVec 5) (c : Cpu) : Answer :=
  aluAnswer opSll c rd rs1 (readX c rs2)
/-- `SLL` (R333). -/
def execSll (rd rs1 rs2 : BitVec 5) (s : State) : Result :=
  .next (conclude deliver .seq 4 s (handleSll rd rs1 rs2 s.cpu))

/-- Handler of `SLT` (R334): x[rd] <- (x[rs1] <s x[rs2]) ? 1 : 0. -/
def handleSlt (rd rs1 rs2 : BitVec 5) (c : Cpu) : Answer :=
  aluAnswer (opCond condLt) c rd rs1 (readX c rs2)
/-- `SLT` (R334). -/
def execSlt (rd rs1 rs2 : BitVec 5) (s : State) : Result :=
  .next (conclude deliver .seq 4 s (handleSlt rd rs1 rs2 s.cpu))

/-- Handler of `SLTU` (R335): x[rd] <- (x[rs1] <u x[rs2]) ? 1 : 0. -/
def handleSltu (rd rs1 rs2 : BitVec 5) (c : Cpu) : Answer :=
  aluAnswer (opCond condLtu) c rd rs1 (readX c rs2)
/-- `SLTU` (R335). -/
def execSltu (rd rs1 rs2 : BitVec 5) (s : State) : Result :=
  .next (conclude deliver .seq 4 s (handleSltu rd rs1 rs2 s.cpu))

/-- Handler of `XOR` (R336): x[rd] <- x[rs1] ^ x[rs2]. -/
def handleXor (rd rs1 rs2 : BitVec 5) (c : Cpu) : Answer :=
  aluAnswer opXor c rd rs1 (readX c rs2)
/-- `XOR` (R336). -/
def execXor (rd rs1 rs2 : BitVec 5) (s : State) : Result :=
  .next (conclude deliver .seq 4 s (handleXor rd rs1 rs2 s.cpu))

/-- Handler of `SRL` (R337): x[rd] <- x[rs1] >>u (x[rs2] mod xlen). -/
def handleSrl (rd rs1 rs2 : BitVec 5) (c : Cpu) : Answer :=
  aluAnswer opSrl c rd rs1 (readX c rs2)
/-- `SRL` (R337). -/
def execSrl (rd rs1 rs2 : BitVec 5) (s : State) : Result :=
  .next (conclude deliver .seq 4 s (handleSrl rd rs1 rs2 s.cpu))

/-- Handler of `SRA` (R338): x[rd] <- x[rs1] >>s (x[rs2] mod xlen). -/
def handleSra (rd rs1 rs2 : BitVec 5) (c : Cpu) : Answer :=
  aluAnswer opSra c rd rs1 (readX c rs2)
/-- `SRA` (R338). -/
def execSra (rd rs1 rs2 : BitVec 5) (s : State) : Result :=
  .next (conclude deliver .seq 4 s (handleSra rd rs1 rs2 s.cpu))

/-- Handler of `OR` (R339): x[rd] <- x[rs1] | x[rs2]. -/
def handleOr (rd rs1 rs2 : BitVec 5) (c : Cpu) : Answer :=
  aluAnswer opOr c rd rs1 (readX c rs2)
/-- `OR` (R339). -/
def execOr (rd rs1 rs2 : BitVec 5) (s : State) : Result :=
  .next (conclude deliver .seq 4 s (handleOr rd rs1 rs2 s.cpu))

/-- Handler of `AND` (R340): x[rd] <- x[rs1] & x[rs2]. -/
def handleAnd (rd rs1 rs2 : BitVec 5) (c : Cpu) : Answer :=
  aluAnswer opAnd c rd rs1 (readX c rs2)
/-- `AND` (R340). -/
def execAnd (rd rs1 rs2 : BitVec 5) (s : State) : Result :=
  .next (conclude deliver .seq 4 s (handleAnd rd rs1 rs2 s.cpu))

/-- Handler of `ADDIW` (R347): x[rd] <- sext_32((x[rs1] + imm)[31:0]). -/
def handleAddiw (rd rs1 : BitVec 5) (imm : BitVec 12) (c : Cpu) : Answer :=
  wordAnswer opAdd c rd rs1 (simm imm)
/-- `ADDIW` (R347). -/
def execAddiw (rd rs1 : BitVec 5) (imm : BitVec 12) (s : State) : Result :=
  .next (conclude deliver .seq 4 s (handleAddiw rd rs1 imm s.cpu))

/-- Handler of `SLLIW` (R348): x[rd] <- sext_32((x[rs1][31:0] << shamt)[31:0]). -/
def handleSlliw (rd rs1 shamt : BitVec 5) (c : Cpu) : Answer :=
  wordAnswer opSlli c rd rs1 (uimm shamt)
/-- `SLLIW` (R348). -/
def execSlliw (rd rs1 shamt : BitVec 5) (s : State) : Result :=
  .next (conclude deliver .seq 4 s (handleSlliw rd rs1 shamt s.cpu))

/-- Handler of `SRLIW` (R349): x[rd] <- sext_32((x[rs1][31:0] >>u shamt)[31:0]). -/
def handleSrliw (rd rs1 shamt : BitVec 5) (c : Cpu) : Answer :=
  wordAnswer opSrli c rd rs1 (uimm shamt)
/-- `SRLIW` (R349). -/
def execSrliw (rd rs1 shamt : BitVec 5) (s : State) : Result :=
  .next (conclude deliver .seq 4 s (handleSrliw rd rs1 shamt s.cpu))

/-- Handler of `SRAIW` (R350): x[rd] <- sext_32((x[rs1][31:0] >>s shamt)[31:0]). -/
def handleSraiw (rd rs1 shamt : BitVec 5) (c : Cpu) : Answer :=
  wordAnswer opSrai c rd rs1 (uimm shamt)
/-- `SRAIW` (R350). -/
def execSraiw (rd rs1 shamt : BitVec 5) (s : State) : Result :=
  .next (conclude deliver .seq 4 s (handleSraiw rd rs1 shamt s.cpu))

/-- Handler of `ADDW` (R351): x[rd] <- sext_32((x[rs1] + x[rs2])[31:0]). -/
def handleAddw (rd rs1 rs2 : BitVec 5) (c : Cpu) : Answer :=
  wordAnswer opAdd c rd rs1 (readX c rs2)
/-- `ADDW` (R351). -/
def execAddw (rd rs1 rs2 : BitVec 5) (s : State) : Result :=
  .next (conclude deliver .seq 4 s (handleAddw rd rs1 rs2 s.cpu))

/-- Handler of `SUBW` (R352): x[rd] <- sext_32((x[rs1] - x[rs2])[31:0]). -/
def handleSubw (rd rs1 rs2 : BitVec 5) (c : Cpu) : Answer :=
  wordAnswer opSub c rd rs1 (readX c rs2)
/-- `SUBW` (R352). -/
def execSubw (rd rs1 rs2 : BitVec 5) (s : State) : Result :=
  .next (conclude deliver .seq 4 s (handleSubw rd rs1 rs2 s.cpu))

/-- Handler of `SLLW` (R353): x[rd] <- sext_32((x[rs1][31:0] << x[rs2][4:0])[31:0]). -/
def handleSllw (rd rs1 rs2 : BitVec 5) (c : Cpu) : Answer :=
  wordAnswer opSll c rd rs1 (readX c rs2)
/-- `SLLW` (R353). -/
def execSllw (rd rs1 rs2 : BitVec 5) (s : State) : Result :=
  .next (conclude deliver .seq 4 s (handleSllw rd rs1 rs2 s.cpu))

/-- Handler of `SRLW` (R354): x[rd] <- sext_32(x[rs1][31:0] >>u x[rs2][4:0]). -/
def handleSrlw (rd rs1 rs2 : BitVec 5) (c : Cpu) : Answer :=
  wordAnswer opSrl c rd rs1 (readX c rs2)
/-- `SRLW` (R354). -/
def execSrlw (rd rs1 rs2 : BitVec 5) (s : State) : Result :=
  .next (conclude deliver .seq 4 s (handleSrlw rd rs1 rs2 s.cpu))

/-- Handler of `SRAW` (R355): x[rd] <- sext_32(x[rs1][31:0] >>s x[rs2][4:0]). -/
def handleSraw (rd rs1 rs2 : BitVec 5) (c : Cpu) : Answer :=
  wordAnswer opSra c rd rs1 (readX c rs2)
/-- `SRAW` (R355). -/
def execSraw (rd rs1 rs2 : BitVec 5) (s : State) : Result :=
  .next (conclude deliver .seq 4 s (handleSraw rd rs1 rs2 s.cpu))

end Sys2Proof.Machine
end

