-- ==== Sys2Proof/Machine/Compressed.lean ====
section
/-! DEFINITION. The 2-byte forms (48_reference_rv_compressed.md R451 to R494): for each instruction its handler (the "Conventional
meaning" of its rule, log 1) and its meaning, EXECUTE and UPDATE-PC of a pass (44_dispatch_loop.md R153 to R160) with that
handler. A marker row has no handler: its meaning is what DECODE does with its leaf (R149, R150). -/

namespace Sys2Proof.Machine

/-- `ILLEGAL.C.ADDI4SPN.Z` (R451): the illegal leaf; the trap of R149 with the opcode that was fetched. -/
def execIllegalCAddi4spnZ (s : State) : Result :=
  .next (takeTrap .illegalInstruction (s.lat.opcode.setWidth 64) s)

/-- Handler of `C.ADDI4SPN` (R452): x[8 + rd_p] <- x[2] + nzuimm. -/
def handleCAddi4spn (rdP : BitVec 3) (nzuimm : BitVec 10) (c : Cpu) : Answer :=
  aluAnswer opAdd c (creg rdP) 2 (uimm nzuimm)
/-- `C.ADDI4SPN` (R452). -/
def execCAddi4spn (rdP : BitVec 3) (nzuimm : BitVec 10) (s : State) : Result :=
  .next (conclude deliver .seq 2 s (handleCAddi4spn rdP nzuimm s.cpu))

/-- Handler of `C.LW` (R453): x[8 + rd_p] <- sext_32(load 4 bytes at x[8 + rs1_p] + uimm). -/
def handleCLw (rdP rs1P : BitVec 3) (uimm : BitVec 7) (c : Cpu) : Answer :=
  loadAnswer c (creg rdP) (effAddr c (creg rs1P) (Machine.uimm uimm)) 4 (loadSigned 32)
/-- `C.LW` (R453). -/
def execCLw (rdP rs1P : BitVec 3) (uimm : BitVec 7) (s : State) : Result :=
  .next (conclude deliver .seq 2 s (handleCLw rdP rs1P uimm s.cpu))

/-- Handler of `C.LD` (R454): x[8 + rd_p] <- load 8 bytes at x[8 + rs1_p] + uimm. -/
def handleCLd (rdP rs1P : BitVec 3) (uimm : BitVec 8) (c : Cpu) : Answer :=
  loadAnswer c (creg rdP) (effAddr c (creg rs1P) (Machine.uimm uimm)) 8 (loadSigned 64)
/-- `C.LD` (R454). -/
def execCLd (rdP rs1P : BitVec 3) (uimm : BitVec 8) (s : State) : Result :=
  .next (conclude deliver .seq 2 s (handleCLd rdP rs1P uimm s.cpu))

/-- Handler of `C.SW` (R455): store the low 4 bytes of x[8 + rs2_p] at x[8 + rs1_p] + uimm. -/
def handleCSw (rs1P rs2P : BitVec 3) (uimm : BitVec 7) (c : Cpu) : Answer :=
  storeAnswer c (effAddr c (creg rs1P) (Machine.uimm uimm)) 4 (readX c (creg rs2P))
/-- `C.SW` (R455). -/
def execCSw (rs1P rs2P : BitVec 3) (uimm : BitVec 7) (s : State) : Result :=
  .next (conclude deliver .seq 2 s (handleCSw rs1P rs2P uimm s.cpu))

/-- Handler of `C.SD` (R456): store the low 8 bytes of x[8 + rs2_p] at x[8 + rs1_p] + uimm. -/
def handleCSd (rs1P rs2P : BitVec 3) (uimm : BitVec 8) (c : Cpu) : Answer :=
  storeAnswer c (effAddr c (creg rs1P) (Machine.uimm uimm)) 8 (readX c (creg rs2P))
/-- `C.SD` (R456). -/
def execCSd (rs1P rs2P : BitVec 3) (uimm : BitVec 8) (s : State) : Result :=
  .next (conclude deliver .seq 2 s (handleCSd rs1P rs2P uimm s.cpu))

/-- `C.NOP` (R457): a no-op leaf; the default advance and nothing else (R150). -/
def execCNop (s : State) : Result :=
  .next (retire (advance 2 s))

/-- Handler of `C.ADDI` (R458): x[rd] <- x[rd] + imm. -/
def handleCAddi (rd : BitVec 5) (imm : BitVec 6) (c : Cpu) : Answer :=
  aluAnswer opAdd c rd rd (simm imm)
/-- `C.ADDI` (R458). -/
def execCAddi (rd : BitVec 5) (imm : BitVec 6) (s : State) : Result :=
  .next (conclude deliver .seq 2 s (handleCAddi rd imm s.cpu))

/-- Handler of `C.JAL` (R459): x[1] <- pc0 + width; pc <- pc0 + imm. -/
def handleCJal (imm : BitVec 12) (width pc0 : Word) (c : Cpu) : Answer :=
  jumpAnswer c 1 width pc0 (relTarget pc0 (simm imm))
/-- `C.JAL` (R459). -/
def execCJal (imm : BitVec 12) (s : State) : Result :=
  .next (conclude deliver .jump 2 s (handleCJal imm (widthWord 2) s.lat.pc0 s.cpu))

/-- `ILLEGAL.C.ADDIW.RD0` (R460): the illegal leaf; the trap of R149 with the opcode that was fetched. -/
def execIllegalCAddiwRd0 (s : State) : Result :=
  .next (takeTrap .illegalInstruction (s.lat.opcode.setWidth 64) s)

/-- Handler of `C.ADDIW` (R461): x[rd] <- sext_32((x[rd] + imm)[31:0]). -/
def handleCAddiw (rd : BitVec 5) (imm : BitVec 6) (c : Cpu) : Answer :=
  wordAnswer opAdd c rd rd (simm imm)
/-- `C.ADDIW` (R461). -/
def execCAddiw (rd : BitVec 5) (imm : BitVec 6) (s : State) : Result :=
  .next (conclude deliver .seq 2 s (handleCAddiw rd imm s.cpu))

/-- Handler of `C.LI` (R462): x[rd] <- imm. -/
def handleCLi (rd : BitVec 5) (imm : BitVec 6) (c : Cpu) : Answer :=
  writeAnswer c rd (simm imm)
/-- `C.LI` (R462). -/
def execCLi (rd : BitVec 5) (imm : BitVec 6) (s : State) : Result :=
  .next (conclude deliver .seq 2 s (handleCLi rd imm s.cpu))

/-- `ILLEGAL.C.ADDI16SP.Z` (R463): the illegal leaf; the trap of R149 with the opcode that was fetched. -/
def execIllegalCAddi16spZ (s : State) : Result :=
  .next (takeTrap .illegalInstruction (s.lat.opcode.setWidth 64) s)

/-- Handler of `C.ADDI16SP` (R464): x[2] <- x[2] + nzimm. -/
def handleCAddi16sp (nzimm : BitVec 10) (c : Cpu) : Answer :=
  aluAnswer opAdd c 2 2 (simm nzimm)
/-- `C.ADDI16SP` (R464). -/
def execCAddi16sp (nzimm : BitVec 10) (s : State) : Result :=
  .next (conclude deliver .seq 2 s (handleCAddi16sp nzimm s.cpu))

/-- `ILLEGAL.C.LUI.Z` (R465): the illegal leaf; the trap of R149 with the opcode that was fetched. -/
def execIllegalCLuiZ (s : State) : Result :=
  .next (takeTrap .illegalInstruction (s.lat.opcode.setWidth 64) s)

/-- Handler of `C.LUI` (R466): x[rd] <- nzimm. -/
def handleCLui (rd : BitVec 5) (nzimm : BitVec 18) (c : Cpu) : Answer :=
  writeAnswer c rd (simm nzimm)
/-- `C.LUI` (R466). -/
def execCLui (rd : BitVec 5) (nzimm : BitVec 18) (s : State) : Result :=
  .next (conclude deliver .seq 2 s (handleCLui rd nzimm s.cpu))

/-- Handler of `C.SRLI` (RV32 form) (R467): x[8 + rd_p] <- x[8 + rd_p] >>u shamt. -/
def handleCSrli32 (rdP : BitVec 3) (shamt : BitVec 5) (c : Cpu) : Answer :=
  aluAnswer opSrli c (creg rdP) (creg rdP) (uimm shamt)
/-- `C.SRLI` (RV32 form) (R467). -/
def execCSrli32 (rdP : BitVec 3) (shamt : BitVec 5) (s : State) : Result :=
  .next (conclude deliver .seq 2 s (handleCSrli32 rdP shamt s.cpu))

/-- Handler of `C.SRAI` (RV32 form) (R468): x[8 + rd_p] <- x[8 + rd_p] >>s shamt. -/
def handleCSrai32 (rdP : BitVec 3) (shamt : BitVec 5) (c : Cpu) : Answer :=
  aluAnswer opSrai c (creg rdP) (creg rdP) (uimm shamt)
/-- `C.SRAI` (RV32 form) (R468). -/
def execCSrai32 (rdP : BitVec 3) (shamt : BitVec 5) (s : State) : Result :=
  .next (conclude deliver .seq 2 s (handleCSrai32 rdP shamt s.cpu))

/-- Handler of `C.SRLI` (RV64 form) (R469): x[8 + rd_p] <- x[8 + rd_p] >>u shamt. -/
def handleCSrli64 (rdP : BitVec 3) (shamt : BitVec 6) (c : Cpu) : Answer :=
  aluAnswer opSrli c (creg rdP) (creg rdP) (uimm shamt)
/-- `C.SRLI` (RV64 form) (R469). -/
def execCSrli64 (rdP : BitVec 3) (shamt : BitVec 6) (s : State) : Result :=
  .next (conclude deliver .seq 2 s (handleCSrli64 rdP shamt s.cpu))

/-- Handler of `C.SRAI` (RV64 form) (R470): x[8 + rd_p] <- x[8 + rd_p] >>s shamt. -/
def handleCSrai64 (rdP : BitVec 3) (shamt : BitVec 6) (c : Cpu) : Answer :=
  aluAnswer opSrai c (creg rdP) (creg rdP) (uimm shamt)
/-- `C.SRAI` (RV64 form) (R470). -/
def execCSrai64 (rdP : BitVec 3) (shamt : BitVec 6) (s : State) : Result :=
  .next (conclude deliver .seq 2 s (handleCSrai64 rdP shamt s.cpu))

/-- Handler of `C.ANDI` (R471): x[8 + rd_p] <- x[8 + rd_p] & imm. -/
def handleCAndi (rdP : BitVec 3) (imm : BitVec 6) (c : Cpu) : Answer :=
  aluAnswer opAnd c (creg rdP) (creg rdP) (simm imm)
/-- `C.ANDI` (R471). -/
def execCAndi (rdP : BitVec 3) (imm : BitVec 6) (s : State) : Result :=
  .next (conclude deliver .seq 2 s (handleCAndi rdP imm s.cpu))

/-- Handler of `C.SUB` (R472): x[8 + rd_p] <- x[8 + rd_p] - x[8 + rs2_p]. -/
def handleCSub (rdP rs2P : BitVec 3) (c : Cpu) : Answer :=
  aluAnswer opSub c (creg rdP) (creg rdP) (readX c (creg rs2P))
/-- `C.SUB` (R472). -/
def execCSub (rdP rs2P : BitVec 3) (s : State) : Result :=
  .next (conclude deliver .seq 2 s (handleCSub rdP rs2P s.cpu))

/-- Handler of `C.XOR` (R473): x[8 + rd_p] <- x[8 + rd_p] ^ x[8 + rs2_p]. -/
def handleCXor (rdP rs2P : BitVec 3) (c : Cpu) : Answer :=
  aluAnswer opXor c (creg rdP) (creg rdP) (readX c (creg rs2P))
/-- `C.XOR` (R473). -/
def execCXor (rdP rs2P : BitVec 3) (s : State) : Result :=
  .next (conclude deliver .seq 2 s (handleCXor rdP rs2P s.cpu))

/-- Handler of `C.OR` (R474): x[8 + rd_p] <- x[8 + rd_p] | x[8 + rs2_p]. -/
def handleCOr (rdP rs2P : BitVec 3) (c : Cpu) : Answer :=
  aluAnswer opOr c (creg rdP) (creg rdP) (readX c (creg rs2P))
/-- `C.OR` (R474). -/
def execCOr (rdP rs2P : BitVec 3) (s : State) : Result :=
  .next (conclude deliver .seq 2 s (handleCOr rdP rs2P s.cpu))

/-- Handler of `C.AND` (R475): x[8 + rd_p] <- x[8 + rd_p] & x[8 + rs2_p]. -/
def handleCAnd (rdP rs2P : BitVec 3) (c : Cpu) : Answer :=
  aluAnswer opAnd c (creg rdP) (creg rdP) (readX c (creg rs2P))
/-- `C.AND` (R475). -/
def execCAnd (rdP rs2P : BitVec 3) (s : State) : Result :=
  .next (conclude deliver .seq 2 s (handleCAnd rdP rs2P s.cpu))

/-- Handler of `C.SUBW` (R476): x[8 + rd_p] <- sext_32((x[8 + rd_p] - x[8 + rs2_p])[31:0]). -/
def handleCSubw (rdP rs2P : BitVec 3) (c : Cpu) : Answer :=
  wordAnswer opSub c (creg rdP) (creg rdP) (readX c (creg rs2P))
/-- `C.SUBW` (R476). -/
def execCSubw (rdP rs2P : BitVec 3) (s : State) : Result :=
  .next (conclude deliver .seq 2 s (handleCSubw rdP rs2P s.cpu))

/-- Handler of `C.ADDW` (R477): x[8 + rd_p] <- sext_32((x[8 + rd_p] + x[8 + rs2_p])[31:0]). -/
def handleCAddw (rdP rs2P : BitVec 3) (c : Cpu) : Answer :=
  wordAnswer opAdd c (creg rdP) (creg rdP) (readX c (creg rs2P))
/-- `C.ADDW` (R477). -/
def execCAddw (rdP rs2P : BitVec 3) (s : State) : Result :=
  .next (conclude deliver .seq 2 s (handleCAddw rdP rs2P s.cpu))

/-- Handler of `C.J` (R478): pc <- pc0 + imm. -/
def handleCJ (imm : BitVec 12) (pc0 : Word) (c : Cpu) : Answer :=
  .done false (writePc c (relTarget pc0 (simm imm)))
/-- `C.J` (R478). -/
def execCJ (imm : BitVec 12) (s : State) : Result :=
  .next (conclude deliver .jump 2 s (handleCJ imm s.lat.pc0 s.cpu))

/-- Handler of `C.BEQZ` (R479): if x[8 + rs1_p] = 0 then pc <- pc0 + imm, Done(true); else Done(false). -/
def handleCBeqz (rs1P : BitVec 3) (imm : BitVec 9) (pc0 : Word) (c : Cpu) : Answer :=
  branchAnswer c (compareAt c.xlen condEq (readX c (creg rs1P)) 0) pc0 (simm imm)
/-- `C.BEQZ` (R479). -/
def execCBeqz (rs1P : BitVec 3) (imm : BitVec 9) (s : State) : Result :=
  .next (conclude deliver .branch 2 s (handleCBeqz rs1P imm s.lat.pc0 s.cpu))

/-- Handler of `C.BNEZ` (R480): if x[8 + rs1_p] != 0 then pc <- pc0 + imm, Done(true); else Done(false). -/
def handleCBnez (rs1P : BitVec 3) (imm : BitVec 9) (pc0 : Word) (c : Cpu) : Answer :=
  branchAnswer c (compareAt c.xlen condNe (readX c (creg rs1P)) 0) pc0 (simm imm)
/-- `C.BNEZ` (R480). -/
def execCBnez (rs1P : BitVec 3) (imm : BitVec 9) (s : State) : Result :=
  .next (conclude deliver .branch 2 s (handleCBnez rs1P imm s.lat.pc0 s.cpu))

/-- Handler of `C.SLLI` (RV32 form) (R481): x[rd] <- x[rd] << shamt. -/
def handleCSlli32 (rd shamt : BitVec 5) (c : Cpu) : Answer :=
  aluAnswer opSlli c rd rd (uimm shamt)
/-- `C.SLLI` (RV32 form) (R481). -/
def execCSlli32 (rd shamt : BitVec 5) (s : State) : Result :=
  .next (conclude deliver .seq 2 s (handleCSlli32 rd shamt s.cpu))

/-- Handler of `C.SLLI` (RV64 form) (R482): x[rd] <- x[rd] << shamt. -/
def handleCSlli64 (rd : BitVec 5) (shamt : BitVec 6) (c : Cpu) : Answer :=
  aluAnswer opSlli c rd rd (uimm shamt)
/-- `C.SLLI` (RV64 form) (R482). -/
def execCSlli64 (rd : BitVec 5) (shamt : BitVec 6) (s : State) : Result :=
  .next (conclude deliver .seq 2 s (handleCSlli64 rd shamt s.cpu))

/-- `ILLEGAL.C.LWSP.RD0` (R483): the illegal leaf; the trap of R149 with the opcode that was fetched. -/
def execIllegalCLwspRd0 (s : State) : Result :=
  .next (takeTrap .illegalInstruction (s.lat.opcode.setWidth 64) s)

/-- Handler of `C.LWSP` (R484): x[rd] <- sext_32(load 4 bytes at x[2] + uimm). -/
def handleCLwsp (rd : BitVec 5) (uimm : BitVec 8) (c : Cpu) : Answer :=
  loadAnswer c rd (effAddr c 2 (Machine.uimm uimm)) 4 (loadSigned 32)
/-- `C.LWSP` (R484). -/
def execCLwsp (rd : BitVec 5) (uimm : BitVec 8) (s : State) : Result :=
  .next (conclude deliver .seq 2 s (handleCLwsp rd uimm s.cpu))

/-- `ILLEGAL.C.LDSP.RD0` (R485): the illegal leaf; the trap of R149 with the opcode that was fetched. -/
def execIllegalCLdspRd0 (s : State) : Result :=
  .next (takeTrap .illegalInstruction (s.lat.opcode.setWidth 64) s)

/-- Handler of `C.LDSP` (R486): x[rd] <- load 8 bytes at x[2] + uimm. -/
def handleCLdsp (rd : BitVec 5) (uimm : BitVec 9) (c : Cpu) : Answer :=
  loadAnswer c rd (effAddr c 2 (Machine.uimm uimm)) 8 (loadSigned 64)
/-- `C.LDSP` (R486). -/
def execCLdsp (rd : BitVec 5) (uimm : BitVec 9) (s : State) : Result :=
  .next (conclude deliver .seq 2 s (handleCLdsp rd uimm s.cpu))

/-- `ILLEGAL.C.JR.RS1Z` (R487): the illegal leaf; the trap of R149 with the opcode that was fetched. -/
def execIllegalCJrRs1z (s : State) : Result :=
  .next (takeTrap .illegalInstruction (s.lat.opcode.setWidth 64) s)

/-- Handler of `C.JR` (R488): pc <- x[rs1] with bit 0 cleared. -/
def handleCJr (rs1 : BitVec 5) (c : Cpu) : Answer :=
  .done false (writePc c (regTarget c rs1 0))
/-- `C.JR` (R488). -/
def execCJr (rs1 : BitVec 5) (s : State) : Result :=
  .next (conclude deliver .jump 2 s (handleCJr rs1 s.cpu))

/-- Handler of `C.MV` (R489): x[rd] <- x[rs2]. -/
def handleCMv (rd rs2 : BitVec 5) (c : Cpu) : Answer :=
  writeAnswer c rd (readX c rs2)
/-- `C.MV` (R489). -/
def execCMv (rd rs2 : BitVec 5) (s : State) : Result :=
  .next (conclude deliver .seq 2 s (handleCMv rd rs2 s.cpu))

/-- Handler of `C.EBREAK` (R490): Raise(breakpoint, pc0); `pc` holds pc0 until UPDATE-PC (10_state.md R11). -/
def handleCEbreak (c : Cpu) : Answer :=
  .raise .breakpoint c.pc c
/-- `C.EBREAK` (R490). -/
def execCEbreak (s : State) : Result :=
  .next (conclude deliver .trapBoundary 2 s (handleCEbreak s.cpu))

/-- Handler of `C.JALR` (R491): t <- pc0 + width; pc <- x[rs1] with bit 0 cleared; x[1] <- t. -/
def handleCJalr (rs1 : BitVec 5) (width pc0 : Word) (c : Cpu) : Answer :=
  jumpAnswer c 1 width pc0 (regTarget c rs1 0)
/-- `C.JALR` (R491). -/
def execCJalr (rs1 : BitVec 5) (s : State) : Result :=
  .next (conclude deliver .jump 2 s (handleCJalr rs1 (widthWord 2) s.lat.pc0 s.cpu))

/-- Handler of `C.ADD` (R492): x[rd] <- x[rd] + x[rs2]. -/
def handleCAdd (rd rs2 : BitVec 5) (c : Cpu) : Answer :=
  aluAnswer opAdd c rd rd (readX c rs2)
/-- `C.ADD` (R492). -/
def execCAdd (rd rs2 : BitVec 5) (s : State) : Result :=
  .next (conclude deliver .seq 2 s (handleCAdd rd rs2 s.cpu))

/-- Handler of `C.SWSP` (R493): store the low 4 bytes of x[rs2] at x[2] + uimm. -/
def handleCSwsp (rs2 : BitVec 5) (uimm : BitVec 8) (c : Cpu) : Answer :=
  storeAnswer c (effAddr c 2 (Machine.uimm uimm)) 4 (readX c rs2)
/-- `C.SWSP` (R493). -/
def execCSwsp (rs2 : BitVec 5) (uimm : BitVec 8) (s : State) : Result :=
  .next (conclude deliver .seq 2 s (handleCSwsp rs2 uimm s.cpu))

/-- Handler of `C.SDSP` (R494): store the 8 bytes of x[rs2] at x[2] + uimm. -/
def handleCSdsp (rs2 : BitVec 5) (uimm : BitVec 9) (c : Cpu) : Answer :=
  storeAnswer c (effAddr c 2 (Machine.uimm uimm)) 8 (readX c rs2)
/-- `C.SDSP` (R494). -/
def execCSdsp (rs2 : BitVec 5) (uimm : BitVec 9) (s : State) : Result :=
  .next (conclude deliver .seq 2 s (handleCSdsp rs2 uimm s.cpu))

end Sys2Proof.Machine
end

