-- ==== Sys2Proof/Machine/Control.lean ====
section
/-! DEFINITION. Jumps and branches (46_reference_rv_base.md R303 to R310): for each instruction its handler (the
"Conventional meaning" of its rule, log 1) and its meaning, EXECUTE and UPDATE-PC of a pass (44_dispatch_loop.md R153 to
R160) with that handler. -/

namespace Sys2Proof.Machine

/-- Handler of `JAL` (R303): x[rd] <- pc0 + width; pc <- pc0 + imm. -/
def handleJal (rd : BitVec 5) (imm : BitVec 21) (width pc0 : Word) (c : Cpu) : Answer :=
  jumpAnswer c rd width pc0 (relTarget pc0 (simm imm))
/-- `JAL` (R303). -/
def execJal (rd : BitVec 5) (imm : BitVec 21) (s : State) : Result :=
  .next (conclude deliver .jump 4 s (handleJal rd imm (widthWord 4) s.lat.pc0 s.cpu))

/-- Handler of `JALR` (R304): t <- pc0 + width; pc <- (x[rs1] + imm) with bit 0 cleared; x[rd] <- t. -/
def handleJalr (rd rs1 : BitVec 5) (imm : BitVec 12) (width pc0 : Word) (c : Cpu) : Answer :=
  jumpAnswer c rd width pc0 (regTarget c rs1 (simm imm))
/-- `JALR` (R304). -/
def execJalr (rd rs1 : BitVec 5) (imm : BitVec 12) (s : State) : Result :=
  .next (conclude deliver .jump 4 s (handleJalr rd rs1 imm (widthWord 4) s.lat.pc0 s.cpu))

/-- Handler of `BEQ` (R305): if x[rs1] = x[rs2] then pc <- pc0 + imm, Done(true); else Done(false). -/
def handleBeq (rs1 rs2 : BitVec 5) (imm : BitVec 13) (pc0 : Word) (c : Cpu) : Answer :=
  branchAnswer c (compareAt c.xlen condEq (readX c rs1) (readX c rs2)) pc0 (simm imm)
/-- `BEQ` (R305). -/
def execBeq (rs1 rs2 : BitVec 5) (imm : BitVec 13) (s : State) : Result :=
  .next (conclude deliver .branch 4 s (handleBeq rs1 rs2 imm s.lat.pc0 s.cpu))

/-- Handler of `BNE` (R306): if x[rs1] != x[rs2] then pc <- pc0 + imm, Done(true); else Done(false). -/
def handleBne (rs1 rs2 : BitVec 5) (imm : BitVec 13) (pc0 : Word) (c : Cpu) : Answer :=
  branchAnswer c (compareAt c.xlen condNe (readX c rs1) (readX c rs2)) pc0 (simm imm)
/-- `BNE` (R306). -/
def execBne (rs1 rs2 : BitVec 5) (imm : BitVec 13) (s : State) : Result :=
  .next (conclude deliver .branch 4 s (handleBne rs1 rs2 imm s.lat.pc0 s.cpu))

/-- Handler of `BLT` (R307): if x[rs1] <s x[rs2] then pc <- pc0 + imm, Done(true); else Done(false). -/
def handleBlt (rs1 rs2 : BitVec 5) (imm : BitVec 13) (pc0 : Word) (c : Cpu) : Answer :=
  branchAnswer c (compareAt c.xlen condLt (readX c rs1) (readX c rs2)) pc0 (simm imm)
/-- `BLT` (R307). -/
def execBlt (rs1 rs2 : BitVec 5) (imm : BitVec 13) (s : State) : Result :=
  .next (conclude deliver .branch 4 s (handleBlt rs1 rs2 imm s.lat.pc0 s.cpu))

/-- Handler of `BGE` (R308): if x[rs1] >=s x[rs2] then pc <- pc0 + imm, Done(true); else Done(false). -/
def handleBge (rs1 rs2 : BitVec 5) (imm : BitVec 13) (pc0 : Word) (c : Cpu) : Answer :=
  branchAnswer c (compareAt c.xlen condGe (readX c rs1) (readX c rs2)) pc0 (simm imm)
/-- `BGE` (R308). -/
def execBge (rs1 rs2 : BitVec 5) (imm : BitVec 13) (s : State) : Result :=
  .next (conclude deliver .branch 4 s (handleBge rs1 rs2 imm s.lat.pc0 s.cpu))

/-- Handler of `BLTU` (R309): if x[rs1] <u x[rs2] then pc <- pc0 + imm, Done(true); else Done(false). -/
def handleBltu (rs1 rs2 : BitVec 5) (imm : BitVec 13) (pc0 : Word) (c : Cpu) : Answer :=
  branchAnswer c (compareAt c.xlen condLtu (readX c rs1) (readX c rs2)) pc0 (simm imm)
/-- `BLTU` (R309). -/
def execBltu (rs1 rs2 : BitVec 5) (imm : BitVec 13) (s : State) : Result :=
  .next (conclude deliver .branch 4 s (handleBltu rs1 rs2 imm s.lat.pc0 s.cpu))

/-- Handler of `BGEU` (R310): if x[rs1] >=u x[rs2] then pc <- pc0 + imm, Done(true); else Done(false). -/
def handleBgeu (rs1 rs2 : BitVec 5) (imm : BitVec 13) (pc0 : Word) (c : Cpu) : Answer :=
  branchAnswer c (compareAt c.xlen condGeu (readX c rs1) (readX c rs2)) pc0 (simm imm)
/-- `BGEU` (R310). -/
def execBgeu (rs1 rs2 : BitVec 5) (imm : BitVec 13) (s : State) : Result :=
  .next (conclude deliver .branch 4 s (handleBgeu rs1 rs2 imm s.lat.pc0 s.cpu))

end Sys2Proof.Machine
end

