-- ==== Sys2Proof/Machine/LoadStore.lean ====
section
/-! DEFINITION. Loads and stores (46_reference_rv_base.md R311 to R318, R344 to R346): for each instruction its handler (the
"Conventional meaning" of its rule, log 1) and its meaning, EXECUTE and UPDATE-PC of a pass (44_dispatch_loop.md R153 to
R160) with that handler. -/

namespace Sys2Proof.Machine

/-- Handler of `LB` (R311): x[rd] <- sext_8(load 1 byte at x[rs1] + imm). -/
def handleLb (rd rs1 : BitVec 5) (imm : BitVec 12) (c : Cpu) : Answer :=
  loadAnswer c rd (effAddr c rs1 (simm imm)) 1 (loadSigned 8)
/-- `LB` (R311). -/
def execLb (rd rs1 : BitVec 5) (imm : BitVec 12) (s : State) : Result :=
  .next (conclude deliver .seq 4 s (handleLb rd rs1 imm s.cpu))

/-- Handler of `LH` (R312): x[rd] <- sext_16(load 2 bytes at x[rs1] + imm). -/
def handleLh (rd rs1 : BitVec 5) (imm : BitVec 12) (c : Cpu) : Answer :=
  loadAnswer c rd (effAddr c rs1 (simm imm)) 2 (loadSigned 16)
/-- `LH` (R312). -/
def execLh (rd rs1 : BitVec 5) (imm : BitVec 12) (s : State) : Result :=
  .next (conclude deliver .seq 4 s (handleLh rd rs1 imm s.cpu))

/-- Handler of `LW` (R313): x[rd] <- sext_32(load 4 bytes at x[rs1] + imm). -/
def handleLw (rd rs1 : BitVec 5) (imm : BitVec 12) (c : Cpu) : Answer :=
  loadAnswer c rd (effAddr c rs1 (simm imm)) 4 (loadSigned 32)
/-- `LW` (R313). -/
def execLw (rd rs1 : BitVec 5) (imm : BitVec 12) (s : State) : Result :=
  .next (conclude deliver .seq 4 s (handleLw rd rs1 imm s.cpu))

/-- Handler of `LBU` (R314): x[rd] <- zext_8(load 1 byte at x[rs1] + imm). -/
def handleLbu (rd rs1 : BitVec 5) (imm : BitVec 12) (c : Cpu) : Answer :=
  loadAnswer c rd (effAddr c rs1 (simm imm)) 1 (loadUnsigned 8)
/-- `LBU` (R314). -/
def execLbu (rd rs1 : BitVec 5) (imm : BitVec 12) (s : State) : Result :=
  .next (conclude deliver .seq 4 s (handleLbu rd rs1 imm s.cpu))

/-- Handler of `LHU` (R315): x[rd] <- zext_16(load 2 bytes at x[rs1] + imm). -/
def handleLhu (rd rs1 : BitVec 5) (imm : BitVec 12) (c : Cpu) : Answer :=
  loadAnswer c rd (effAddr c rs1 (simm imm)) 2 (loadUnsigned 16)
/-- `LHU` (R315). -/
def execLhu (rd rs1 : BitVec 5) (imm : BitVec 12) (s : State) : Result :=
  .next (conclude deliver .seq 4 s (handleLhu rd rs1 imm s.cpu))

/-- Handler of `LWU` (R344): x[rd] <- zext_32(load 4 bytes at x[rs1] + imm). -/
def handleLwu (rd rs1 : BitVec 5) (imm : BitVec 12) (c : Cpu) : Answer :=
  loadAnswer c rd (effAddr c rs1 (simm imm)) 4 (loadUnsigned 32)
/-- `LWU` (R344). -/
def execLwu (rd rs1 : BitVec 5) (imm : BitVec 12) (s : State) : Result :=
  .next (conclude deliver .seq 4 s (handleLwu rd rs1 imm s.cpu))

/-- Handler of `LD` (R345): x[rd] <- load 8 bytes at x[rs1] + imm. -/
def handleLd (rd rs1 : BitVec 5) (imm : BitVec 12) (c : Cpu) : Answer :=
  loadAnswer c rd (effAddr c rs1 (simm imm)) 8 (loadSigned 64)
/-- `LD` (R345). -/
def execLd (rd rs1 : BitVec 5) (imm : BitVec 12) (s : State) : Result :=
  .next (conclude deliver .seq 4 s (handleLd rd rs1 imm s.cpu))

/-- Handler of `SB` (R316): store the low 1 byte of x[rs2] at x[rs1] + imm. -/
def handleSb (rs1 rs2 : BitVec 5) (imm : BitVec 12) (c : Cpu) : Answer :=
  storeAnswer c (effAddr c rs1 (simm imm)) 1 (readX c rs2)
/-- `SB` (R316). -/
def execSb (rs1 rs2 : BitVec 5) (imm : BitVec 12) (s : State) : Result :=
  .next (conclude deliver .seq 4 s (handleSb rs1 rs2 imm s.cpu))

/-- Handler of `SH` (R317): store the low 2 bytes of x[rs2] at x[rs1] + imm. -/
def handleSh (rs1 rs2 : BitVec 5) (imm : BitVec 12) (c : Cpu) : Answer :=
  storeAnswer c (effAddr c rs1 (simm imm)) 2 (readX c rs2)
/-- `SH` (R317). -/
def execSh (rs1 rs2 : BitVec 5) (imm : BitVec 12) (s : State) : Result :=
  .next (conclude deliver .seq 4 s (handleSh rs1 rs2 imm s.cpu))

/-- Handler of `SW` (R318): store the low 4 bytes of x[rs2] at x[rs1] + imm. -/
def handleSw (rs1 rs2 : BitVec 5) (imm : BitVec 12) (c : Cpu) : Answer :=
  storeAnswer c (effAddr c rs1 (simm imm)) 4 (readX c rs2)
/-- `SW` (R318). -/
def execSw (rs1 rs2 : BitVec 5) (imm : BitVec 12) (s : State) : Result :=
  .next (conclude deliver .seq 4 s (handleSw rs1 rs2 imm s.cpu))

/-- Handler of `SD` (R346): store the low 8 bytes of x[rs2] at x[rs1] + imm. -/
def handleSd (rs1 rs2 : BitVec 5) (imm : BitVec 12) (c : Cpu) : Answer :=
  storeAnswer c (effAddr c rs1 (simm imm)) 8 (readX c rs2)
/-- `SD` (R346). -/
def execSd (rs1 rs2 : BitVec 5) (imm : BitVec 12) (s : State) : Result :=
  .next (conclude deliver .seq 4 s (handleSd rs1 rs2 imm s.cpu))

end Sys2Proof.Machine
end

