-- ==== Sys2Proof/Machine/MulDiv.lean ====
section
/-! DEFINITION. Multiplication and division (47_reference_rv_system_m.md R411 to R423): for each instruction its handler (the
"Conventional meaning" of its rule, log 1) and its meaning, EXECUTE and UPDATE-PC of a pass (44_dispatch_loop.md R153 to
R160) with that handler. -/

namespace Sys2Proof.Machine

/-- Handler of `MUL` (R411): x[rd] <- (x[rs1] * x[rs2])[xlen-1:0]. -/
def handleMul (rd rs1 rs2 : BitVec 5) (c : Cpu) : Answer :=
  aluAnswer opMul c rd rs1 (readX c rs2)
/-- `MUL` (R411). -/
def execMul (rd rs1 rs2 : BitVec 5) (s : State) : Result :=
  .next (conclude deliver .seq 4 s (handleMul rd rs1 rs2 s.cpu))

/-- Handler of `MULH` (R412): x[rd] <- (x[rs1] *s x[rs2])[2*xlen-1:xlen]. -/
def handleMulh (rd rs1 rs2 : BitVec 5) (c : Cpu) : Answer :=
  aluAnswer opMulh c rd rs1 (readX c rs2)
/-- `MULH` (R412). -/
def execMulh (rd rs1 rs2 : BitVec 5) (s : State) : Result :=
  .next (conclude deliver .seq 4 s (handleMulh rd rs1 rs2 s.cpu))

/-- Handler of `MULHSU` (R413): x[rd] <- (x[rs1] signed * x[rs2] unsigned)[2*xlen-1:xlen]. -/
def handleMulhsu (rd rs1 rs2 : BitVec 5) (c : Cpu) : Answer :=
  aluAnswer opMulhsu c rd rs1 (readX c rs2)
/-- `MULHSU` (R413). -/
def execMulhsu (rd rs1 rs2 : BitVec 5) (s : State) : Result :=
  .next (conclude deliver .seq 4 s (handleMulhsu rd rs1 rs2 s.cpu))

/-- Handler of `MULHU` (R414): x[rd] <- (x[rs1] *u x[rs2])[2*xlen-1:xlen]. -/
def handleMulhu (rd rs1 rs2 : BitVec 5) (c : Cpu) : Answer :=
  aluAnswer opMulhu c rd rs1 (readX c rs2)
/-- `MULHU` (R414). -/
def execMulhu (rd rs1 rs2 : BitVec 5) (s : State) : Result :=
  .next (conclude deliver .seq 4 s (handleMulhu rd rs1 rs2 s.cpu))

/-- Handler of `DIV` (R415): x[rd] <- x[rs1] /s x[rs2] (all ones when x[rs2] = 0). DEDUCED, unsafe (log 23): an inexact quotient is
rounded toward zero. -/
def handleDiv (rd rs1 rs2 : BitVec 5) (c : Cpu) : Answer :=
  aluAnswer opDiv c rd rs1 (readX c rs2)
/-- `DIV` (R415). -/
def execDiv (rd rs1 rs2 : BitVec 5) (s : State) : Result :=
  .next (conclude deliver .seq 4 s (handleDiv rd rs1 rs2 s.cpu))

/-- Handler of `DIVU` (R416): x[rd] <- x[rs1] /u x[rs2] (all ones when x[rs2] = 0). -/
def handleDivu (rd rs1 rs2 : BitVec 5) (c : Cpu) : Answer :=
  aluAnswer opDivu c rd rs1 (readX c rs2)
/-- `DIVU` (R416). -/
def execDivu (rd rs1 rs2 : BitVec 5) (s : State) : Result :=
  .next (conclude deliver .seq 4 s (handleDivu rd rs1 rs2 s.cpu))

/-- Handler of `REM` (R417): x[rd] <- x[rs1] %s x[rs2] (x[rs1] when x[rs2] = 0). -/
def handleRem (rd rs1 rs2 : BitVec 5) (c : Cpu) : Answer :=
  aluAnswer opRem c rd rs1 (readX c rs2)
/-- `REM` (R417). -/
def execRem (rd rs1 rs2 : BitVec 5) (s : State) : Result :=
  .next (conclude deliver .seq 4 s (handleRem rd rs1 rs2 s.cpu))

/-- Handler of `REMU` (R418): x[rd] <- x[rs1] %u x[rs2] (x[rs1] when x[rs2] = 0). -/
def handleRemu (rd rs1 rs2 : BitVec 5) (c : Cpu) : Answer :=
  aluAnswer opRemu c rd rs1 (readX c rs2)
/-- `REMU` (R418). -/
def execRemu (rd rs1 rs2 : BitVec 5) (s : State) : Result :=
  .next (conclude deliver .seq 4 s (handleRemu rd rs1 rs2 s.cpu))

/-- Handler of `MULW` (R419): x[rd] <- sext_32((x[rs1] * x[rs2])[31:0]). -/
def handleMulw (rd rs1 rs2 : BitVec 5) (c : Cpu) : Answer :=
  wordAnswer opMul c rd rs1 (readX c rs2)
/-- `MULW` (R419). -/
def execMulw (rd rs1 rs2 : BitVec 5) (s : State) : Result :=
  .next (conclude deliver .seq 4 s (handleMulw rd rs1 rs2 s.cpu))

/-- Handler of `DIVW` (R420): x[rd] <- sext_32(x[rs1][31:0] /s x[rs2][31:0]); a free value when x[rs2][31:0] = 0 (log 23). DEDUCED,
unsafe (log 23): an inexact quotient is rounded toward zero. -/
def handleDivw (rd rs1 rs2 : BitVec 5) (c : Cpu) : Answer :=
  wordDivAnswer Config.divwByZero BitVec.sdiv c rd rs1 rs2
/-- `DIVW` (R420). -/
def execDivw (rd rs1 rs2 : BitVec 5) (s : State) : Result :=
  .next (conclude deliver .seq 4 s (handleDivw rd rs1 rs2 s.cpu))

/-- Handler of `DIVUW` (R421): x[rd] <- sext_32(x[rs1][31:0] /u x[rs2][31:0]); a free value when x[rs2][31:0] = 0 (log 23). -/
def handleDivuw (rd rs1 rs2 : BitVec 5) (c : Cpu) : Answer :=
  wordDivAnswer Config.divuwByZero BitVec.udiv c rd rs1 rs2
/-- `DIVUW` (R421). -/
def execDivuw (rd rs1 rs2 : BitVec 5) (s : State) : Result :=
  .next (conclude deliver .seq 4 s (handleDivuw rd rs1 rs2 s.cpu))

/-- Handler of `REMW` (R422): x[rd] <- sext_32(x[rs1][31:0] %s x[rs2][31:0]); a free value when x[rs2][31:0] = 0 (log 23). DEDUCED,
unsafe (log 23): the remainder has the sign of the dividend, as that of REM. -/
def handleRemw (rd rs1 rs2 : BitVec 5) (c : Cpu) : Answer :=
  wordDivAnswer Config.remwByZero BitVec.srem c rd rs1 rs2
/-- `REMW` (R422). -/
def execRemw (rd rs1 rs2 : BitVec 5) (s : State) : Result :=
  .next (conclude deliver .seq 4 s (handleRemw rd rs1 rs2 s.cpu))

/-- Handler of `REMUW` (R423): x[rd] <- sext_32(x[rs1][31:0] %u x[rs2][31:0]); a free value when x[rs2][31:0] = 0 (log 23). -/
def handleRemuw (rd rs1 rs2 : BitVec 5) (c : Cpu) : Answer :=
  wordDivAnswer Config.remuwByZero BitVec.umod c rd rs1 rs2
/-- `REMUW` (R423). -/
def execRemuw (rd rs1 rs2 : BitVec 5) (s : State) : Result :=
  .next (conclude deliver .seq 4 s (handleRemuw rd rs1 rs2 s.cpu))

end Sys2Proof.Machine
end

