-- ==== Sys2Proof/Machine/System.lean ====
section
/-! DEFINITION. Fences, environment instructions, CSR instructions, trap returns, WFI and SFENCE.VMA (46_reference_rv_base.md R341 to
R343, R356; 47_reference_rv_system_m.md R401 to R410): for each instruction its handler (the
"Conventional meaning" of its rule, log 1) and its meaning, EXECUTE and UPDATE-PC of a pass (44_dispatch_loop.md R153 to
R160) with that handler. -/

namespace Sys2Proof.Machine

/-- Handler of `FENCE` (R341): nothing, in a sequential machine (20_memory.md R41, log 18). -/
def handleFence (c : Cpu) : Answer :=
  .done false c
/-- `FENCE` (R341). -/
def execFence (s : State) : Result :=
  .next (conclude deliver .seq 4 s (handleFence s.cpu))

/-- Handler of `FENCE.I` (R356): nothing: the loop keeps no fetched instruction (20_memory.md R42, log 18). -/
def handleFenceI (c : Cpu) : Answer :=
  .done false c
/-- `FENCE.I` (R356). -/
def execFenceI (s : State) : Result :=
  .next (conclude deliver .seq 4 s (handleFenceI s.cpu))

/-- Handler of `ECALL` (R342): Raise(environment call for the current privilege mode, 0). -/
def handleEcall (c : Cpu) : Answer :=
  .raise (envCall c.priv) 0 c
/-- `ECALL` (R342). -/
def execEcall (s : State) : Result :=
  .next (conclude deliver .trapBoundary 4 s (handleEcall s.cpu))

/-- Handler of `EBREAK` (R343): Raise(breakpoint, pc0); `pc` holds pc0 until UPDATE-PC (10_state.md R11). -/
def handleEbreak (c : Cpu) : Answer :=
  .raise .breakpoint c.pc c
/-- `EBREAK` (R343). -/
def execEbreak (s : State) : Result :=
  .next (conclude deliver .trapBoundary 4 s (handleEbreak s.cpu))

/-- Handler of `CSRRW` (R401): t <- CSR[csr]; CSR[csr] <- x[rs1]; x[rd] <- t. -/
def handleCsrrw (rd rs1 : BitVec 5) (csr : BitVec 12) (c : Cpu) : Answer :=
  csrAnswer c (.csrrw rd rs1 csr) rd csr true (fun _ => readX c rs1)
/-- `CSRRW` (R401). -/
def execCsrrw (rd rs1 : BitVec 5) (csr : BitVec 12) (s : State) : Result :=
  .next (conclude deliver .seq 4 s (handleCsrrw rd rs1 csr s.cpu))

/-- Handler of `CSRRS` (R402): t <- CSR[csr]; CSR[csr] <- t | x[rs1] (no write when rs1 = 0); x[rd] <- t. -/
def handleCsrrs (rd rs1 : BitVec 5) (csr : BitVec 12) (c : Cpu) : Answer :=
  csrAnswer c (.csrrs rd rs1 csr) rd csr (rs1 != 0) (fun t => t ||| readX c rs1)
/-- `CSRRS` (R402). -/
def execCsrrs (rd rs1 : BitVec 5) (csr : BitVec 12) (s : State) : Result :=
  .next (conclude deliver .seq 4 s (handleCsrrs rd rs1 csr s.cpu))

/-- Handler of `CSRRC` (R403): t <- CSR[csr]; CSR[csr] <- t & ~x[rs1] (no write when rs1 = 0); x[rd] <- t. -/
def handleCsrrc (rd rs1 : BitVec 5) (csr : BitVec 12) (c : Cpu) : Answer :=
  csrAnswer c (.csrrc rd rs1 csr) rd csr (rs1 != 0) (fun t => t &&& ~~~readX c rs1)
/-- `CSRRC` (R403). -/
def execCsrrc (rd rs1 : BitVec 5) (csr : BitVec 12) (s : State) : Result :=
  .next (conclude deliver .seq 4 s (handleCsrrc rd rs1 csr s.cpu))

/-- Handler of `CSRRWI` (R404): t <- CSR[csr]; CSR[csr] <- uimm; x[rd] <- t. -/
def handleCsrrwi (rd uimm : BitVec 5) (csr : BitVec 12) (c : Cpu) : Answer :=
  csrAnswer c (.csrrwi rd uimm csr) rd csr true (fun _ => Machine.uimm uimm)
/-- `CSRRWI` (R404). -/
def execCsrrwi (rd uimm : BitVec 5) (csr : BitVec 12) (s : State) : Result :=
  .next (conclude deliver .seq 4 s (handleCsrrwi rd uimm csr s.cpu))

/-- Handler of `CSRRSI` (R405): t <- CSR[csr]; CSR[csr] <- t | uimm (no write when uimm = 0); x[rd] <- t. -/
def handleCsrrsi (rd uimm : BitVec 5) (csr : BitVec 12) (c : Cpu) : Answer :=
  csrAnswer c (.csrrsi rd uimm csr) rd csr (uimm != 0) (fun t => t ||| Machine.uimm uimm)
/-- `CSRRSI` (R405). -/
def execCsrrsi (rd uimm : BitVec 5) (csr : BitVec 12) (s : State) : Result :=
  .next (conclude deliver .seq 4 s (handleCsrrsi rd uimm csr s.cpu))

/-- Handler of `CSRRCI` (R406): t <- CSR[csr]; CSR[csr] <- t & ~uimm (no write when uimm = 0); x[rd] <- t. -/
def handleCsrrci (rd uimm : BitVec 5) (csr : BitVec 12) (c : Cpu) : Answer :=
  csrAnswer c (.csrrci rd uimm csr) rd csr (uimm != 0) (fun t => t &&& ~~~Machine.uimm uimm)
/-- `CSRRCI` (R406). -/
def execCsrrci (rd uimm : BitVec 5) (csr : BitVec 12) (s : State) : Result :=
  .next (conclude deliver .seq 4 s (handleCsrrci rd uimm csr s.cpu))

/-- Handler of `SRET` (R407): pc <- the saved supervisor exception pc, privilege and interrupt enable restored; an illegal-instruction trap when not
permitted (log 16). -/
def handleSret (c : Cpu) : Answer :=
  if c.priv = .machine ∨ (c.priv = .supervisor ∧ bitAt (csrGet c csrMstatus) tsrBit = false) then .done false (returnS c)
  else illegalAnswer c .sret
/-- `SRET` (R407). -/
def execSret (s : State) : Result :=
  .next (conclude deliver .trapBoundary 4 s (handleSret s.cpu))

/-- Handler of `MRET` (R408): pc <- the saved machine exception pc, privilege and interrupt enable restored; an illegal-instruction trap when not
permitted (log 16). -/
def handleMret (c : Cpu) : Answer :=
  if c.priv = .machine then .done false (returnM c) else illegalAnswer c .mret
/-- `MRET` (R408). -/
def execMret (s : State) : Result :=
  .next (conclude deliver .trapBoundary 4 s (handleMret s.cpu))

/-- Handler of `WFI` (R409): nothing: the wait ends at once (60_exceptions.md R217, log 18). -/
def handleWfi (c : Cpu) : Answer :=
  .done false c
/-- `WFI` (R409). -/
def execWfi (s : State) : Result :=
  .next (conclude deliver .seq 4 s (handleWfi s.cpu))

/-- Handler of `SFENCE.VMA` (R410): order page-table updates before later translations: nothing, since no translation is kept (10_state.md R19, log 18). -/
def handleSfenceVma (rs1 rs2 : BitVec 5) (c : Cpu) : Answer :=
  if c.priv = .machine ∨ (c.priv = .supervisor ∧ bitAt (csrGet c csrMstatus) tvmBit = false) then .done false c
  else illegalAnswer c (.sfenceVma rs1 rs2)
/-- `SFENCE.VMA` (R410). -/
def execSfenceVma (rs1 rs2 : BitVec 5) (s : State) : Result :=
  .next (conclude deliver .seq 4 s (handleSfenceVma rs1 rs2 s.cpu))

end Sys2Proof.Machine
end

