-- ==== Sys2Proof/Machine/Handlers.lean ====
section
/-! DEFINITION. The reference handlers in the form the generic loop calls them: a handler reference and the operand values
(44_dispatch_loop.md R153; operands R151, appended parameters R152), and the reference collaborators. -/

namespace Sys2Proof

/-- What a handler that is no reference handler does, by its reference, its arguments and the CPU state: the spec takes handlers
from outside (00_scope.md R3, R4). A free value (log 22). -/
opaque Config.foreignHandler : HandlerRef → List Word → Machine.Cpu → Machine.Reply Machine.Answer

end Sys2Proof

namespace Sys2Proof.Machine

/-- The `k`-th argument. -/
def argWord (a : List Word) (k : Nat) : Word := a.getD k 0

/-- The reference handler of a mnemonic on its arguments. A marker row has no handler (R149, R150), nor has a mnemonic outside the
reference set: `callHandler` does not come here for them. -/
def refHandler (h : HandlerRef) (a : List Word) (c : Cpu) : Answer :=
  match h with
  | .lui => handleLui (Instr.arg a 0 5) (Instr.arg a 1 32) c
  | .auipc => handleAuipc (Instr.arg a 0 5) (Instr.arg a 1 32) (argWord a 2) c
  | .jal => handleJal (Instr.arg a 0 5) (Instr.arg a 1 21) (argWord a 2) (argWord a 3) c
  | .jalr => handleJalr (Instr.arg a 0 5) (Instr.arg a 1 5) (Instr.arg a 2 12) (argWord a 3) (argWord a 4) c
  | .beq => handleBeq (Instr.arg a 0 5) (Instr.arg a 1 5) (Instr.arg a 2 13) (argWord a 3) c
  | .bne => handleBne (Instr.arg a 0 5) (Instr.arg a 1 5) (Instr.arg a 2 13) (argWord a 3) c
  | .blt => handleBlt (Instr.arg a 0 5) (Instr.arg a 1 5) (Instr.arg a 2 13) (argWord a 3) c
  | .bge => handleBge (Instr.arg a 0 5) (Instr.arg a 1 5) (Instr.arg a 2 13) (argWord a 3) c
  | .bltu => handleBltu (Instr.arg a 0 5) (Instr.arg a 1 5) (Instr.arg a 2 13) (argWord a 3) c
  | .bgeu => handleBgeu (Instr.arg a 0 5) (Instr.arg a 1 5) (Instr.arg a 2 13) (argWord a 3) c
  | .lb => handleLb (Instr.arg a 0 5) (Instr.arg a 1 5) (Instr.arg a 2 12) c
  | .lh => handleLh (Instr.arg a 0 5) (Instr.arg a 1 5) (Instr.arg a 2 12) c
  | .lw => handleLw (Instr.arg a 0 5) (Instr.arg a 1 5) (Instr.arg a 2 12) c
  | .lbu => handleLbu (Instr.arg a 0 5) (Instr.arg a 1 5) (Instr.arg a 2 12) c
  | .lhu => handleLhu (Instr.arg a 0 5) (Instr.arg a 1 5) (Instr.arg a 2 12) c
  | .sb => handleSb (Instr.arg a 0 5) (Instr.arg a 1 5) (Instr.arg a 2 12) c
  | .sh => handleSh (Instr.arg a 0 5) (Instr.arg a 1 5) (Instr.arg a 2 12) c
  | .sw => handleSw (Instr.arg a 0 5) (Instr.arg a 1 5) (Instr.arg a 2 12) c
  | .addi => handleAddi (Instr.arg a 0 5) (Instr.arg a 1 5) (Instr.arg a 2 12) c
  | .slti => handleSlti (Instr.arg a 0 5) (Instr.arg a 1 5) (Instr.arg a 2 12) c
  | .sltiu => handleSltiu (Instr.arg a 0 5) (Instr.arg a 1 5) (Instr.arg a 2 12) c
  | .xori => handleXori (Instr.arg a 0 5) (Instr.arg a 1 5) (Instr.arg a 2 12) c
  | .ori => handleOri (Instr.arg a 0 5) (Instr.arg a 1 5) (Instr.arg a 2 12) c
  | .andi => handleAndi (Instr.arg a 0 5) (Instr.arg a 1 5) (Instr.arg a 2 12) c
  | .slli => handleSlli64 (Instr.arg a 0 5) (Instr.arg a 1 5) (Instr.arg a 2 6) c
  | .srli => handleSrli64 (Instr.arg a 0 5) (Instr.arg a 1 5) (Instr.arg a 2 6) c
  | .srai => handleSrai64 (Instr.arg a 0 5) (Instr.arg a 1 5) (Instr.arg a 2 6) c
  | .add => handleAdd (Instr.arg a 0 5) (Instr.arg a 1 5) (Instr.arg a 2 5) c
  | .sub => handleSub (Instr.arg a 0 5) (Instr.arg a 1 5) (Instr.arg a 2 5) c
  | .sll => handleSll (Instr.arg a 0 5) (Instr.arg a 1 5) (Instr.arg a 2 5) c
  | .slt => handleSlt (Instr.arg a 0 5) (Instr.arg a 1 5) (Instr.arg a 2 5) c
  | .sltu => handleSltu (Instr.arg a 0 5) (Instr.arg a 1 5) (Instr.arg a 2 5) c
  | .xor => handleXor (Instr.arg a 0 5) (Instr.arg a 1 5) (Instr.arg a 2 5) c
  | .srl => handleSrl (Instr.arg a 0 5) (Instr.arg a 1 5) (Instr.arg a 2 5) c
  | .sra => handleSra (Instr.arg a 0 5) (Instr.arg a 1 5) (Instr.arg a 2 5) c
  | .or => handleOr (Instr.arg a 0 5) (Instr.arg a 1 5) (Instr.arg a 2 5) c
  | .and => handleAnd (Instr.arg a 0 5) (Instr.arg a 1 5) (Instr.arg a 2 5) c
  | .fence => handleFence c
  | .ecall => handleEcall c
  | .ebreak => handleEbreak c
  | .lwu => handleLwu (Instr.arg a 0 5) (Instr.arg a 1 5) (Instr.arg a 2 12) c
  | .ld => handleLd (Instr.arg a 0 5) (Instr.arg a 1 5) (Instr.arg a 2 12) c
  | .sd => handleSd (Instr.arg a 0 5) (Instr.arg a 1 5) (Instr.arg a 2 12) c
  | .addiw => handleAddiw (Instr.arg a 0 5) (Instr.arg a 1 5) (Instr.arg a 2 12) c
  | .slliw => handleSlliw (Instr.arg a 0 5) (Instr.arg a 1 5) (Instr.arg a 2 5) c
  | .srliw => handleSrliw (Instr.arg a 0 5) (Instr.arg a 1 5) (Instr.arg a 2 5) c
  | .sraiw => handleSraiw (Instr.arg a 0 5) (Instr.arg a 1 5) (Instr.arg a 2 5) c
  | .addw => handleAddw (Instr.arg a 0 5) (Instr.arg a 1 5) (Instr.arg a 2 5) c
  | .subw => handleSubw (Instr.arg a 0 5) (Instr.arg a 1 5) (Instr.arg a 2 5) c
  | .sllw => handleSllw (Instr.arg a 0 5) (Instr.arg a 1 5) (Instr.arg a 2 5) c
  | .srlw => handleSrlw (Instr.arg a 0 5) (Instr.arg a 1 5) (Instr.arg a 2 5) c
  | .sraw => handleSraw (Instr.arg a 0 5) (Instr.arg a 1 5) (Instr.arg a 2 5) c
  | .fenceI => handleFenceI c
  | .csrrw => handleCsrrw (Instr.arg a 0 5) (Instr.arg a 1 5) (Instr.arg a 2 12) c
  | .csrrs => handleCsrrs (Instr.arg a 0 5) (Instr.arg a 1 5) (Instr.arg a 2 12) c
  | .csrrc => handleCsrrc (Instr.arg a 0 5) (Instr.arg a 1 5) (Instr.arg a 2 12) c
  | .csrrwi => handleCsrrwi (Instr.arg a 0 5) (Instr.arg a 1 5) (Instr.arg a 2 12) c
  | .csrrsi => handleCsrrsi (Instr.arg a 0 5) (Instr.arg a 1 5) (Instr.arg a 2 12) c
  | .csrrci => handleCsrrci (Instr.arg a 0 5) (Instr.arg a 1 5) (Instr.arg a 2 12) c
  | .sret => handleSret c
  | .mret => handleMret c
  | .wfi => handleWfi c
  | .sfenceVma => handleSfenceVma (Instr.arg a 0 5) (Instr.arg a 1 5) c
  | .mul => handleMul (Instr.arg a 0 5) (Instr.arg a 1 5) (Instr.arg a 2 5) c
  | .mulh => handleMulh (Instr.arg a 0 5) (Instr.arg a 1 5) (Instr.arg a 2 5) c
  | .mulhsu => handleMulhsu (Instr.arg a 0 5) (Instr.arg a 1 5) (Instr.arg a 2 5) c
  | .mulhu => handleMulhu (Instr.arg a 0 5) (Instr.arg a 1 5) (Instr.arg a 2 5) c
  | .div => handleDiv (Instr.arg a 0 5) (Instr.arg a 1 5) (Instr.arg a 2 5) c
  | .divu => handleDivu (Instr.arg a 0 5) (Instr.arg a 1 5) (Instr.arg a 2 5) c
  | .rem => handleRem (Instr.arg a 0 5) (Instr.arg a 1 5) (Instr.arg a 2 5) c
  | .remu => handleRemu (Instr.arg a 0 5) (Instr.arg a 1 5) (Instr.arg a 2 5) c
  | .mulw => handleMulw (Instr.arg a 0 5) (Instr.arg a 1 5) (Instr.arg a 2 5) c
  | .divw => handleDivw (Instr.arg a 0 5) (Instr.arg a 1 5) (Instr.arg a 2 5) c
  | .divuw => handleDivuw (Instr.arg a 0 5) (Instr.arg a 1 5) (Instr.arg a 2 5) c
  | .remw => handleRemw (Instr.arg a 0 5) (Instr.arg a 1 5) (Instr.arg a 2 5) c
  | .remuw => handleRemuw (Instr.arg a 0 5) (Instr.arg a 1 5) (Instr.arg a 2 5) c
  | .illegalCAddi4spnZ => .done false c
  | .cAddi4spn => handleCAddi4spn (Instr.arg a 0 3) (Instr.arg a 1 10) c
  | .cLw => handleCLw (Instr.arg a 0 3) (Instr.arg a 1 3) (Instr.arg a 2 7) c
  | .cLd => handleCLd (Instr.arg a 0 3) (Instr.arg a 1 3) (Instr.arg a 2 8) c
  | .cSw => handleCSw (Instr.arg a 0 3) (Instr.arg a 1 3) (Instr.arg a 2 7) c
  | .cSd => handleCSd (Instr.arg a 0 3) (Instr.arg a 1 3) (Instr.arg a 2 8) c
  | .cNop => .done false c
  | .cAddi => handleCAddi (Instr.arg a 0 5) (Instr.arg a 1 6) c
  | .cJal => handleCJal (Instr.arg a 0 12) (argWord a 1) (argWord a 2) c
  | .illegalCAddiwRd0 => .done false c
  | .cAddiw => handleCAddiw (Instr.arg a 0 5) (Instr.arg a 1 6) c
  | .cLi => handleCLi (Instr.arg a 0 5) (Instr.arg a 1 6) c
  | .illegalCAddi16spZ => .done false c
  | .cAddi16sp => handleCAddi16sp (Instr.arg a 0 10) c
  | .illegalCLuiZ => .done false c
  | .cLui => handleCLui (Instr.arg a 0 5) (Instr.arg a 1 18) c
  | .cSrli => handleCSrli64 (Instr.arg a 0 3) (Instr.arg a 1 6) c
  | .cSrai => handleCSrai64 (Instr.arg a 0 3) (Instr.arg a 1 6) c
  | .cAndi => handleCAndi (Instr.arg a 0 3) (Instr.arg a 1 6) c
  | .cSub => handleCSub (Instr.arg a 0 3) (Instr.arg a 1 3) c
  | .cXor => handleCXor (Instr.arg a 0 3) (Instr.arg a 1 3) c
  | .cOr => handleCOr (Instr.arg a 0 3) (Instr.arg a 1 3) c
  | .cAnd => handleCAnd (Instr.arg a 0 3) (Instr.arg a 1 3) c
  | .cSubw => handleCSubw (Instr.arg a 0 3) (Instr.arg a 1 3) c
  | .cAddw => handleCAddw (Instr.arg a 0 3) (Instr.arg a 1 3) c
  | .cJ => handleCJ (Instr.arg a 0 12) (argWord a 1) c
  | .cBeqz => handleCBeqz (Instr.arg a 0 3) (Instr.arg a 1 9) (argWord a 2) c
  | .cBnez => handleCBnez (Instr.arg a 0 3) (Instr.arg a 1 9) (argWord a 2) c
  | .cSlli => handleCSlli64 (Instr.arg a 0 5) (Instr.arg a 1 6) c
  | .illegalCLwspRd0 => .done false c
  | .cLwsp => handleCLwsp (Instr.arg a 0 5) (Instr.arg a 1 8) c
  | .illegalCLdspRd0 => .done false c
  | .cLdsp => handleCLdsp (Instr.arg a 0 5) (Instr.arg a 1 9) c
  | .illegalCJrRs1z => .done false c
  | .cJr => handleCJr (Instr.arg a 0 5) c
  | .cMv => handleCMv (Instr.arg a 0 5) (Instr.arg a 1 5) c
  | .cEbreak => handleCEbreak c
  | .cJalr => handleCJalr (Instr.arg a 0 5) (argWord a 1) (argWord a 2) c
  | .cAdd => handleCAdd (Instr.arg a 0 5) (Instr.arg a 1 5) c
  | .cSwsp => handleCSwsp (Instr.arg a 0 5) (Instr.arg a 1 8) c
  | .cSdsp => handleCSdsp (Instr.arg a 0 5) (Instr.arg a 1 9) c
  | .other _ => .done false c

/-- Calling a handler: a reference handler returns, any other one does what `Config.foreignHandler` says (log 22). -/
def callHandler (h : HandlerRef) (a : List Word) (c : Cpu) : Reply Answer :=
  if refMnemonics.contains h then .returns (refHandler h a c) else Config.foreignHandler h a c

/-- The reference collaborators for any TRAP_CODE (00_scope.md R4; log 1). -/
def collaboratorsWith (code : TrapKind → Nat) : Collaborators :=
  { pageSize := Config.tcPageSize, translate := refTranslate, readHalf := refReadHalf, handler := callHandler,
    deliver := fun k v c => .returns (deliverWith code k v c) }

/-- The collaborators of the reference machine, with the reference numbering. -/
def refCollaborators : Collaborators := collaboratorsWith trapCode

end Sys2Proof.Machine
end

