-- ==== Sys2Proof/Machine/Run.lean ====
section
/-! DEFINITION. EXECUTE and UPDATE-PC of the reference machine, through the typed meanings of `exec`; and placing an
instruction at the address of the next fetch. -/

namespace Sys2Proof.Machine

/-- The reference handler of mnemonic `m` is the one that is bound to it. -/
def boundToReference (l : List Binding) (m : Mnemonic) : Bool :=
  refMnemonics.contains m && bindOf l m == some (refBinding m)

/-- The reference instruction that declaration `d` makes of an opcode word, when the reference handler is bound to its mnemonic. -/
def boundInstr (l : List Binding) (d : Declaration) (w : Opcode) : Option Instr :=
  if boundToReference l d.mnemonic then Instr.ofDecl d w else none

/-- EXECUTE and UPDATE-PC through the handler that is bound, whichever it is (R153 to R160). -/
def runBound (s : State) : Result := continueAt .update updateStage (executeStage refCollaborators s)

/-- EXECUTE and UPDATE-PC of the latched declaration: of a reference instruction its meaning, on the state with the handler call
recorded; of a declaration or a binding outside the reference set, a call of the handler that is bound (log 22). -/
def runLatched (s : State) : Result :=
  match s.lat.res with
  | .decl d =>
    match boundInstr s.bind d s.lat.opcode with
    | some i => exec i (noteCall (.handler d.mnemonic s.lat.args) s)
    | none => runBound s
  | .nop _ => runBound s
  | .illegal => runBound s

/-- StepOne of the reference machine. -/
def refPass (s : State) : Result := continueAt .execute runLatched (beforeExecute refCollaborators s)

/-- The list of unmapped pages without one page. -/
def mapPage (p : Nat) (l : List (Nat × FetchTag)) : List (Nat × FetchTag) := l.filter (fun e => e.1 != p)

/-- The breakpoint set without one address. -/
def clearBreakpoint (a : Word) (bp : Option (List Word)) : Option (List Word) := bp.map (fun l => l.filter (fun b => b != a))

/-- Four bytes stored at `pc` with bit 0 cleared, the page or pages of the two half-words mapped, no breakpoint there, and the
block between passes: all that the next fetch needs. -/
def placeFetch (w : Nat) (s : State) : State :=
  let a := evenAddr s.cpu.pc
  let c := storeBytes .w64 4 a (BitVec.ofNat 64 w) s.cpu
  { s with
    cpu := { c with pc := a, unmapped := mapPage (pageOf (a + 2)) (mapPage (pageOf a) c.unmapped) }
    bp := clearBreakpoint a s.bp
    phase := .idle }

end Sys2Proof.Machine
end

