-- ==== Sys2Proof/Machine/Step.lean ====
section
/-! DEFINITION. One step of the reference machine is one pass, StepOne (44_dispatch_loop.md R140; log 21); and a word placed
where the next pass fetches. -/

namespace Sys2Proof.Machine

/-- One pass. -/
def step (s : State) : Host.Outcome State Fault Refusal := refPass s

/-- The state with an opcode-table word of `nbits` bits where the next pass fetches (log 24). -/
def State.withFetchWord (s : State) (nbits w : Nat) : State := placeFetch (w % 2 ^ nbits) s

end Sys2Proof.Machine
end

