-- ==== Sys2Proof/Machine/HostOps.lean ====
section
/-! DEFINITION. Startup and the host (board) operations of 45_host_operations.md, for any declaration set, handler binding and
reset width; and what the outside may change between passes (10_state.md R25). -/

namespace Sys2Proof.Machine

/-! ## STARTUP (R170) -/

/-- The machine before STARTUP (10_state.md R16, R24; the values that the spec leaves unspecified: log 25). -/
def unbuilt (c : Cpu) : State :=
  { cpu := c, tree32 := { arena := [], root := 0 }, tree64 := { arena := [], root := 0 }, bind := [], bp := none,
    phase := .unbuilt, lat := Latches.reset, budget := 0, outcome := none, calls := [] }

/-- The first REGULAR declaration whose mnemonic has no handler. -/
def missingHandler (ds : List Declaration) (hs : List Binding) : Option Mnemonic :=
  (ds.find? (fun d => d.kind == .regular && (bindOf hs d.mnemonic).isNone)).map Declaration.mnemonic

/-- `HANDLERS` restricted to the mnemonics of `DECLS`. -/
def restrictBinding (ds : List Declaration) (hs : List Binding) : List Binding :=
  hs.filter (fun b => ds.any (fun d => d.mnemonic == b.mnemonic))

/-- The checks of STARTUP in the order of its pseudocode, with the part of R84 that no single variant's set shows after
BUILD (D13): both trees and the binding, or the fatal reason. -/
def startupChecks (ds : List Declaration) (hs : List Binding) : Except Fault (Tree × Tree × List Binding) :=
  match build (variantDecls .w32 ds) with
  | .error e => .error e
  | .ok t32 =>
    match build (variantDecls .w64 ds) with
    | .error e => .error e
    | .ok t64 =>
      if consistentMnemonics ds then
        match missingHandler ds hs with
        | some m => .error (.missingHandler m)
        | none =>
          if conforms (decideTree t32) && conforms (decideTree t64) then .ok (t32, t64, restrictBinding ds hs)
          else .error .nonConforming
      else .error .malformedSet

/-- `xlen` after STARTUP: 64 when XLEN_RESET = KEEP. -/
def startupXlen : Config.XlenReset → Xlen
  | .to x => x
  | .keep => .w64

/-- The state after a successful STARTUP (10_state.md R24). `pc` is not written. -/
def ready (xr : Config.XlenReset) (t32 t64 : Tree) (bind : List Binding) (s : State) : State :=
  { s with cpu := { s.cpu with xlen := startupXlen xr }, tree32 := t32, tree64 := t64, bind := bind, bp := none, budget := 0,
           phase := .idle }

/-- STARTUP as an outcome: `Ready` is a next state, `fatal` is a fault with its reason. -/
def startup (xr : Config.XlenReset) (ds : List Declaration) (hs : List Binding) (s : State) : Result :=
  if s.phase = .unbuilt then
    match startupChecks ds hs with
    | .ok (t32, t64, b) => .next (ready xr t32 t64 b s)
    | .error e => .fault e
  else .refused .notUnbuilt

/-- The state that STARTUP leaves: FATAL, for good, after a fatal failure (60_exceptions.md R205); a refused STARTUP changes
nothing. -/
def afterStartup (xr : Config.XlenReset) (ds : List Declaration) (hs : List Binding) (s : State) : State :=
  match startup xr ds hs s with
  | .next t => t
  | .fault _ => { s with phase := .fatal }
  | .refused _ => s

/-! ## Commands that need IDLE (R171 to R177) -/

/-- Command acceptance (R177). -/
def whenIdle (s : State) (f : State → Result) : Result := if s.phase = .idle then f s else .refused .notIdle

/-- `xlen` after RESET. -/
def resetXlen (xr : Config.XlenReset) (x : Xlen) : Xlen :=
  match xr with
  | .to y => y
  | .keep => x

/-- RESET(entry) (R171). -/
def hostReset (xr : Config.XlenReset) (entry : Word) (s : State) : Result :=
  whenIdle s fun s =>
    .next { s with cpu := { s.cpu with pc := entry, xlen := resetXlen xr s.cpu.xlen }, budget := 0 }

/-- The register width that a number names. -/
def xlenOfNat (w : Nat) : Option Xlen := if w = 32 then some .w32 else if w = 64 then some .w64 else none

/-- SET_XLEN(w) (R172). -/
def setXlen (w : Nat) (s : State) : Result :=
  whenIdle s fun s =>
    match xlenOfNat w with
    | some x => .next { s with cpu := { s.cpu with xlen := x } }
    | none => .refused (.badWidth w)

/-- INVALIDATE (R174): no state of the block changes; the call to the translation cache is recorded (log 25). -/
def invalidate (s : State) : Result := whenIdle s fun s => .next { s with calls := [.invalidate] }

/-- FEATURES (R175): the constant ISA_FEATURES, and no state changes. -/
def features (s : State) : Except Refusal Nat := if s.phase = .idle then .ok Config.isaFeatures else .error .notIdle

/-- SET_BREAKPOINTS(s) (R176). -/
def setBreakpoints (b : Option (List Word)) (s : State) : Result := whenIdle s fun s => .next { s with bp := b }

/-- What RUN answers besides its state: `Completed`, or `Stopped(a)` at a breakpoint (R173). -/
inductive RunAnswer where
  | completed
  | stopped (a : Word)
deriving DecidableEq, Repr

/-- `Stopped(a)` when the pass ended at a breakpoint. -/
def stopOf : Option PassOutcome → Option Word
  | some (.breakpointHit a) => some a
  | some .retired => none
  | some (.trapped _ _) => none
  | none => none

/-- The loop of RUN, for any pass: the number is the budget that is left. A pass that ends in a trap counts as a step and the
loop goes on (R173). -/
def runLoop (onePass : State → Result) : Nat → State → Host.Outcome (State × RunAnswer) Fault Refusal
  | 0, s => .next ({ s with budget := 0 }, .completed)
  | n + 1, s =>
    match onePass { s with budget := n + 1 } with
    | .next t =>
      match stopOf t.outcome with
      | some a => .next ({ t with budget := 0 }, .stopped a)
      | none => runLoop onePass n t
    | .fault r => .fault r
    | .refused r => .refused r

/-- RUN(n) for any pass (R173). -/
def runWith (onePass : State → Result) (n : Nat) (s : State) : Host.Outcome (State × RunAnswer) Fault Refusal :=
  if s.phase = .idle then runLoop onePass n s else .refused .notIdle

/-- RUN(n) of the reference machine. -/
def run (n : Nat) (s : State) : Host.Outcome (State × RunAnswer) Fault Refusal := runWith step n s

/-! ## The command type (30_encoding.md R65) -/

/-- The host commands, one constructor each. -/
inductive Command where
  | startup (decls : List Declaration) (handlers : List Binding)
  | reset (entry : Word)
  | setXlen (w : Nat)
  | run (n : Nat)
  | invalidate
  | features
  | setBreakpoints (s : Option (List Word))
deriving DecidableEq, Repr

/-- What a command that is accepted and not fatal answers. -/
inductive CommandAnswer where
  | ready
  | done
  | ran (a : RunAnswer)
  | isaFeatures (f : Nat)
deriving DecidableEq, Repr

/-- The outcome of a command. -/
abbrev CommandResult := Host.Outcome (State × CommandAnswer) Fault Refusal

/-- An outcome with the answer that goes with its next state. -/
def answering {α β : Type} (f : α → β) (o : Host.Outcome α Fault Refusal) : Host.Outcome β Fault Refusal :=
  match o with
  | .next a => .next (f a)
  | .fault r => .fault r
  | .refused r => .refused r

/-- One host command on an instance with reset width `xr` and the given StepOne. -/
def command (xr : Config.XlenReset) (onePass : State → Result) (k : Command) (s : State) : CommandResult :=
  match k with
  | .startup ds hs => answering (fun t => (t, .ready)) (startup xr ds hs s)
  | .reset entry => answering (fun t => (t, .done)) (hostReset xr entry s)
  | .setXlen w => answering (fun t => (t, .done)) (setXlen w s)
  | .run n => answering (fun r => (r.1, .ran r.2)) (runWith onePass n s)
  | .invalidate => answering (fun t => (t, .done)) (invalidate s)
  | .features =>
    match features s with
    | .ok f => .next (s, .isaFeatures f)
    | .error r => .refused r
  | .setBreakpoints b => answering (fun t => (t, .done)) (setBreakpoints b s)

/-- Where RUN is when it goes no further: after the passes that ended, with the budget that is left. A RUN that hangs in a pass is
in EXECUTE for good, and so accepts no command. DESIGN CHOICE, unsafe (logs 33, 34): the spec gives neither a stuck pass nor a
later pass that is refused a state. -/
def whereRunIs (onePass : State → Result) : Nat → State → State
  | 0, s => { s with budget := 0 }
  | n + 1, s =>
    match onePass { s with budget := n + 1 } with
    | .next t =>
      match stopOf t.outcome with
      | some _ => { t with budget := 0 }
      | none => whereRunIs onePass n t
    | .fault _ => { s with budget := n + 1, phase := .execute }
    | .refused _ => { s with budget := n + 1 }

/-- The state that RUN leaves: outside IDLE it is refused and changes nothing (R177). -/
def afterRun (onePass : State → Result) (n : Nat) (s : State) : State :=
  if s.phase = .idle then whereRunIs onePass n s else s

/-- The state that an outcome leaves of `s`: a refused command changes nothing (R177). -/
def stateOr (s : State) (o : Result) : State :=
  match o with
  | .next t => t
  | .fault _ => s
  | .refused _ => s

/-- The state that a command leaves: a refused one changes nothing, a fatal STARTUP leaves FATAL (R170, R177); a RUN that does not
complete, see `whereRunIs` (logs 33, 34). -/
def afterCommand (xr : Config.XlenReset) (onePass : State → Result) (k : Command) (s : State) : State :=
  match k with
  | .startup ds hs => afterStartup xr ds hs s
  | .reset entry => stateOr s (hostReset xr entry s)
  | .setXlen w => stateOr s (setXlen w s)
  | .run n => afterRun onePass n s
  | .invalidate => stateOr s (invalidate s)
  | .features => s
  | .setBreakpoints b => stateOr s (setBreakpoints b s)

/-- Between passes the outside may change `ext`, `pc` and `xlen`, and nothing else of the block (10_state.md R25,
60_exceptions.md R206). -/
def external (c : Cpu) (s : State) : Result := whenIdle s fun s => .next { s with cpu := c }

end Sys2Proof.Machine
end

