-- ==== Sys2Proof/Safety.lean ====
section
/-! DEFINITION. What a good state of the reference machine is, in the terms the statements use. -/

namespace Sys2Proof.Machine

/-- The next fetch address is even (20_memory.md R33). -/
def State.pcEven (s : State) : Bool := !isOdd s.cpu.pc

/-- Memory is in canonical form. -/
def State.memWf (s : State) : Bool := Memory.wf s.cpu.mem

/-- The CSR file is in canonical form, with CSR numbers of 12 bits only. -/
def State.csrWf (s : State) : Bool := Store.wf s.cpu.csr && Store.keysBelow 4096 s.cpu.csr

/-- The storage of x0 holds zero. -/
def State.x0Zero (s : State) : Bool := s.cpu.x[0] == 0

/-- The trees and the binding are those that STARTUP makes of the reference set (10_state.md R13, R14). -/
structure State.Built (s : State) : Prop where
  tree32 : s.tree32 = refTree32
  tree64 : s.tree64 = refTree64
  bind   : s.bind = refBind

/-- The invariant of the reference machine between passes. -/
structure State.Inv (s : State) : Prop where
  built  : s.Built
  idle   : s.phase = .idle
  pcEven : s.pcEven = true
  memWf  : s.memWf = true
  csrWf  : s.csrWf = true
  x0Zero : s.x0Zero = true

/-- The step stops: a fault or a refusal. -/
def Stops (o : Result) : Prop :=
  match o with
  | .next _ => False
  | .fault _ => True
  | .refused _ => True

end Sys2Proof.Machine
end

