-- ==== Sys2Proof/Laws/Store.lean ====
section
/-! SUPPORT. Laws of the sparse store: what a read after a write gives, and that a write keeps the canonical form. -/

namespace Sys2Proof.Machine

theorem Store.wfFrom_mono {w : Nat} (m : Store w) (lo lo' : Nat) (h : lo' ≤ lo) (hm : Store.wfFrom lo m = true) :
    Store.wfFrom lo' m = true := by
  cases m with
  | nil => rfl
  | cons e m =>
    simp only [Store.wfFrom, Bool.and_eq_true, decide_eq_true_eq] at hm ⊢
    exact ⟨⟨by omega, hm.1.2⟩, hm.2⟩

/-- A key below every listed key reads as zero. -/
theorem Store.get_below {w : Nat} (m : Store w) (lo a : Nat) (hm : Store.wfFrom lo m = true) (h : a < lo) :
    Store.get m a = 0#w := by
  induction m generalizing lo with
  | nil => rfl
  | cons e m ih =>
    simp only [Store.wfFrom, Bool.and_eq_true, decide_eq_true_eq] at hm
    have hne : a ≠ e.1 := by omega
    simp only [Store.get, hne, if_false]
    exact ih (e.1 + 1) hm.2 (by omega)

theorem Store.get_set_from {w : Nat} (m : Store w) (lo a b : Nat) (v : BitVec w) (hm : Store.wfFrom lo m = true) :
    Store.get (Store.set m a v) b = if b = a then v else Store.get m b := by
  induction m generalizing lo with
  | nil =>
    by_cases hv : v = 0#w <;> by_cases hb : b = a <;> simp [Store.set, Store.get, hv, hb]
  | cons e m ih =>
    obtain ⟨k, u⟩ := e
    simp only [Store.wfFrom, Bool.and_eq_true, decide_eq_true_eq] at hm
    have hk := Store.get_below m (k + 1) k hm.2 (by omega)
    by_cases h1 : a < k
    · by_cases hv : v = 0#w
      · have : b = a → Store.get ((k, u) :: m) b = 0#w := fun hb =>
          Store.get_below ((k, u) :: m) k b (by simp [Store.wfFrom, hm.2, hm.1.2]) (by omega)
        by_cases hb : b = a
        · simp only [Store.set, h1, if_true, hv, hb]; exact hb ▸ this hb
        · simp [Store.set, h1, hv, hb]
      · by_cases hb : b = a <;> simp [Store.set, Store.get, h1, hv, hb]
    · by_cases h2 : a = k
      · subst h2
        by_cases hv : v = 0#w <;> by_cases hb : b = a <;> simp [Store.set, Store.get, hv, hb, hk]
      · by_cases hb : b = k
        · subst hb
          have : b ≠ a := fun h => h2 h.symm
          simp [Store.set, Store.get, h1, h2, this]
        · simp [Store.set, Store.get, h1, h2, hb, ih (k + 1) hm.2]

/-- Read after write. -/
theorem Store.get_set {w : Nat} (m : Store w) (a b : Nat) (v : BitVec w) (hm : Store.wf m = true) :
    Store.get (Store.set m a v) b = if b = a then v else Store.get m b :=
  Store.get_set_from m 0 a b v hm

theorem Store.wfFrom_set {w : Nat} (m : Store w) (lo a : Nat) (v : BitVec w) (hm : Store.wfFrom lo m = true)
    (h : lo ≤ a) : Store.wfFrom lo (Store.set m a v) = true := by
  induction m generalizing lo with
  | nil => by_cases hv : v = 0#w <;> simp [Store.set, Store.wfFrom, hv, h]
  | cons e m ih =>
    obtain ⟨k, u⟩ := e
    simp only [Store.wfFrom, Bool.and_eq_true, decide_eq_true_eq] at hm
    obtain ⟨⟨hk, hu⟩, hm⟩ := hm
    by_cases h1 : a < k
    · by_cases hv : v = 0#w
      · simp [Store.set, Store.wfFrom, h1, hv, hk, hu, hm]
      · simp only [Store.set, h1, hv, if_true, if_false, Store.wfFrom, Bool.and_eq_true, decide_eq_true_eq]
        exact ⟨⟨h, by simpa using hv⟩, ⟨by omega, hu⟩, hm⟩
    · by_cases h2 : a = k
      · subst h2
        by_cases hv : v = 0#w
        · simp only [Store.set, h1, hv, if_true, if_false]; exact Store.wfFrom_mono m (a + 1) lo (by omega) hm
        · simp [Store.set, Store.wfFrom, hv, hk, hm]
      · simp only [Store.set, h1, h2, if_false, Store.wfFrom, Bool.and_eq_true, decide_eq_true_eq]
        exact ⟨⟨hk, hu⟩, ih (k + 1) hm (by omega)⟩

/-- A write keeps the canonical form. -/
theorem Store.wf_set {w : Nat} (m : Store w) (a : Nat) (v : BitVec w) (hm : Store.wf m = true) :
    Store.wf (Store.set m a v) = true :=
  Store.wfFrom_set m 0 a v hm (Nat.zero_le a)

/-- A write at a key below a bound keeps every key below it. -/
theorem Store.keysBelow_set {w : Nat} (n : Nat) (m : Store w) (a : Nat) (v : BitVec w)
    (hm : Store.keysBelow n m = true) (h : a < n) : Store.keysBelow n (Store.set m a v) = true := by
  induction m with
  | nil => by_cases hv : v = 0#w <;> simp [Store.set, Store.keysBelow, hv, h]
  | cons e m ih =>
    obtain ⟨k, u⟩ := e
    have hk : k < n := by simpa [Store.keysBelow] using (List.all_eq_true.mp hm) (k, u) (by simp)
    have hm' : Store.keysBelow n m = true :=
      List.all_eq_true.mpr fun e he => (List.all_eq_true.mp hm) e (List.mem_cons_of_mem _ he)
    have hcons : ∀ (j : Nat) (z : BitVec w) (l : Store w), j < n → Store.keysBelow n l = true →
        Store.keysBelow n ((j, z) :: l) = true := fun j z l hj hl => by
      simpa [Store.keysBelow, hj] using hl
    unfold Store.set
    split
    · split
      · exact hm
      · exact hcons _ _ _ h hm
    · split
      · split
        · exact hm'
        · exact hcons _ _ _ h hm'
      · exact hcons _ _ _ hk (ih hm')

/-- Writing a byte keeps memory in canonical form. -/
theorem Memory.wf_set (m : List Host.Cell) (a : Word) (b : Byte) (hm : Memory.wf m = true) :
    Memory.wf (Store.set m a.toNat b) = true := by
  simp only [Memory.wf, Bool.and_eq_true] at hm ⊢
  exact ⟨Store.wf_set m a.toNat b hm.1, Store.keysBelow_set (2 ^ 64) m a.toNat b hm.2 a.isLt⟩

theorem Memory.wf_putByte (c : Cpu) (a : Word) (b : Byte) (hm : Memory.wf c.mem = true) :
    Memory.wf (putByte c a b).mem = true :=
  Memory.wf_set c.mem a b hm

/-- Storing any number of bytes keeps memory in canonical form. -/
theorem Memory.wf_storeBytes (x : Xlen) (n : Nat) (a v : Word) (c : Cpu) (hm : Memory.wf c.mem = true) :
    Memory.wf (storeBytes x n a v c).mem = true := by
  induction n generalizing a v c with
  | zero => exact hm
  | succ n ih => exact ih _ _ _ (Memory.wf_putByte c a _ hm)

/-- Memory at reset is in canonical form. -/
theorem Memory.wf_reset : Memory.wf State.reset.cpu.mem = true := by decide

/-- A byte read after a byte write. -/
theorem byteAt_putByte (c : Cpu) (a b : Word) (v : Byte) (hm : Memory.wf c.mem = true) :
    byteAt (putByte c a v) b = if b = a then v else byteAt c b := by
  have h : Store.wf c.mem = true := by simp only [Memory.wf, Bool.and_eq_true] at hm; exact hm.1
  simp only [byteAt, putByte, Store.get_set c.mem a.toNat b.toNat v h, BitVec.toNat_inj]

/-- A byte that is none of the stored ones reads as before. -/
theorem byteAt_storeBytes_other (x : Xlen) (n : Nat) (a v b : Word) (c : Cpu) (hm : Memory.wf c.mem = true)
    (h : ∀ i < n, b ≠ accessAddr x a i) : byteAt (storeBytes x n a v c) b = byteAt c b := by
  induction n generalizing a v c with
  | zero => rfl
  | succ n ih =>
    have h0 : b ≠ a := h 0 (Nat.zero_lt_succ n)
    rw [storeBytes, ih _ _ _ (Memory.wf_putByte c a _ hm) (fun i hi => h (i + 1) (Nat.succ_lt_succ hi)),
      byteAt_putByte c a b _ hm, if_neg h0]

/-- Two canonical stores that read alike are the same data. -/
theorem Store.ext_from {w : Nat} (m m' : Store w) (lo : Nat) (hm : Store.wfFrom lo m = true)
    (hm' : Store.wfFrom lo m' = true) (h : ∀ a, Store.get m a = Store.get m' a) : m = m' := by
  induction m generalizing m' lo with
  | nil =>
    cases m' with
    | nil => rfl
    | cons e m' =>
      simp only [Store.wfFrom, Bool.and_eq_true, decide_eq_true_eq] at hm'
      have := h e.1
      simp only [Store.get, if_true] at this
      simp [← this] at hm'
  | cons e m ih =>
    obtain ⟨k, u⟩ := e
    simp only [Store.wfFrom, Bool.and_eq_true, decide_eq_true_eq] at hm
    cases m' with
    | nil =>
      have := h k
      simp only [Store.get, if_true] at this
      simp [this] at hm
    | cons e' m' =>
      obtain ⟨k', u'⟩ := e'
      simp only [Store.wfFrom, Bool.and_eq_true, decide_eq_true_eq] at hm'
      have hk := h k
      have hk' := h k'
      simp only [Store.get, if_true] at hk hk'
      by_cases hlt : k < k'
      · rw [if_neg (by omega), Store.get_below m' (k' + 1) k hm'.2 (by omega)] at hk
        simp [hk] at hm
      · by_cases hgt : k' < k
        · rw [if_neg (by omega), Store.get_below m (k + 1) k' hm.2 (by omega)] at hk'
          simp [← hk'] at hm'
        · have he : k = k' := by omega
          subst he
          simp only [if_true] at hk
          subst hk
          refine congrArg _ (ih m' (k + 1) hm.2 hm'.2 ?_)
          intro a
          by_cases ha : a = k
          · subst ha
            rw [Store.get_below m (a + 1) a hm.2 (by omega), Store.get_below m' (a + 1) a hm'.2 (by omega)]
          · simpa [Store.get, ha] using h a

end Sys2Proof.Machine
end

