-- ==== Sys2Proof/Laws/State.lean ====
section
/-! SUPPORT. One lemma per field per update: what each named update leaves in each field of the state it returns. -/

namespace Sys2Proof.Machine

/-! ## Updates of the CPU state -/

@[simp] theorem writeX_pc (c : Cpu) (rd : BitVec 5) (v : Word) : (writeX c rd v).pc = c.pc := by unfold writeX; split <;> rfl
@[simp] theorem writeX_xlen (c : Cpu) (rd : BitVec 5) (v : Word) : (writeX c rd v).xlen = c.xlen := by unfold writeX; split <;> rfl
@[simp] theorem writeX_csr (c : Cpu) (rd : BitVec 5) (v : Word) : (writeX c rd v).csr = c.csr := by unfold writeX; split <;> rfl
@[simp] theorem writeX_priv (c : Cpu) (rd : BitVec 5) (v : Word) : (writeX c rd v).priv = c.priv := by unfold writeX; split <;> rfl
@[simp] theorem writeX_mem (c : Cpu) (rd : BitVec 5) (v : Word) : (writeX c rd v).mem = c.mem := by unfold writeX; split <;> rfl
@[simp] theorem writeX_unmapped (c : Cpu) (rd : BitVec 5) (v : Word) : (writeX c rd v).unmapped = c.unmapped := by unfold writeX; split <;> rfl
@[simp] theorem writeX_align (c : Cpu) (rd : BitVec 5) (v : Word) : (writeX c rd v).align = c.align := by unfold writeX; split <;> rfl
@[simp] theorem writePc_pc (c : Cpu) (t : Word) : (writePc c t).pc = wrapAddr c.xlen t := rfl
@[simp] theorem writePc_xlen (c : Cpu) (t : Word) : (writePc c t).xlen = c.xlen := rfl
@[simp] theorem writePc_x (c : Cpu) (t : Word) : (writePc c t).x = c.x := rfl
@[simp] theorem writePc_csr (c : Cpu) (t : Word) : (writePc c t).csr = c.csr := rfl
@[simp] theorem writePc_priv (c : Cpu) (t : Word) : (writePc c t).priv = c.priv := rfl
@[simp] theorem writePc_mem (c : Cpu) (t : Word) : (writePc c t).mem = c.mem := rfl
@[simp] theorem writePc_unmapped (c : Cpu) (t : Word) : (writePc c t).unmapped = c.unmapped := rfl
@[simp] theorem writePc_align (c : Cpu) (t : Word) : (writePc c t).align = c.align := rfl
@[simp] theorem csrPut_pc (c : Cpu) (n : BitVec 12) (v : Word) : (csrPut c n v).pc = c.pc := rfl
@[simp] theorem csrPut_xlen (c : Cpu) (n : BitVec 12) (v : Word) : (csrPut c n v).xlen = c.xlen := rfl
@[simp] theorem csrPut_x (c : Cpu) (n : BitVec 12) (v : Word) : (csrPut c n v).x = c.x := rfl
@[simp] theorem csrPut_csr (c : Cpu) (n : BitVec 12) (v : Word) : (csrPut c n v).csr = Store.set c.csr n.toNat v := rfl
@[simp] theorem csrPut_priv (c : Cpu) (n : BitVec 12) (v : Word) : (csrPut c n v).priv = c.priv := rfl
@[simp] theorem csrPut_mem (c : Cpu) (n : BitVec 12) (v : Word) : (csrPut c n v).mem = c.mem := rfl
@[simp] theorem csrPut_unmapped (c : Cpu) (n : BitVec 12) (v : Word) : (csrPut c n v).unmapped = c.unmapped := rfl
@[simp] theorem csrPut_align (c : Cpu) (n : BitVec 12) (v : Word) : (csrPut c n v).align = c.align := rfl
@[simp] theorem csrWrite_pc (c : Cpu) (n : BitVec 12) (v : Word) : (csrWrite c n v).pc = c.pc := by unfold csrWrite; split <;> rfl
@[simp] theorem csrWrite_xlen (c : Cpu) (n : BitVec 12) (v : Word) : (csrWrite c n v).xlen = c.xlen := by unfold csrWrite; split <;> rfl
@[simp] theorem csrWrite_x (c : Cpu) (n : BitVec 12) (v : Word) : (csrWrite c n v).x = c.x := by unfold csrWrite; split <;> rfl
@[simp] theorem csrWrite_priv (c : Cpu) (n : BitVec 12) (v : Word) : (csrWrite c n v).priv = c.priv := by unfold csrWrite; split <;> rfl
@[simp] theorem csrWrite_mem (c : Cpu) (n : BitVec 12) (v : Word) : (csrWrite c n v).mem = c.mem := by unfold csrWrite; split <;> rfl
@[simp] theorem csrWrite_unmapped (c : Cpu) (n : BitVec 12) (v : Word) : (csrWrite c n v).unmapped = c.unmapped := by unfold csrWrite; split <;> rfl
@[simp] theorem csrWrite_align (c : Cpu) (n : BitVec 12) (v : Word) : (csrWrite c n v).align = c.align := by unfold csrWrite; split <;> rfl
@[simp] theorem putByte_pc (c : Cpu) (a : Word) (b : Byte) : (putByte c a b).pc = c.pc := rfl
@[simp] theorem putByte_xlen (c : Cpu) (a : Word) (b : Byte) : (putByte c a b).xlen = c.xlen := rfl
@[simp] theorem putByte_x (c : Cpu) (a : Word) (b : Byte) : (putByte c a b).x = c.x := rfl
@[simp] theorem putByte_csr (c : Cpu) (a : Word) (b : Byte) : (putByte c a b).csr = c.csr := rfl
@[simp] theorem putByte_priv (c : Cpu) (a : Word) (b : Byte) : (putByte c a b).priv = c.priv := rfl
@[simp] theorem putByte_mem (c : Cpu) (a : Word) (b : Byte) : (putByte c a b).mem = Store.set c.mem a.toNat b := rfl
@[simp] theorem putByte_unmapped (c : Cpu) (a : Word) (b : Byte) : (putByte c a b).unmapped = c.unmapped := rfl
@[simp] theorem putByte_align (c : Cpu) (a : Word) (b : Byte) : (putByte c a b).align = c.align := rfl
@[simp] theorem storeBytes_pc (y : Xlen) (n : Nat) (a v : Word) (c : Cpu) : (storeBytes y n a v c).pc = c.pc := by
  induction n generalizing a v c with
  | zero => rfl
  | succ n ih => simp [storeBytes, ih]
@[simp] theorem storeBytes_xlen (y : Xlen) (n : Nat) (a v : Word) (c : Cpu) : (storeBytes y n a v c).xlen = c.xlen := by
  induction n generalizing a v c with
  | zero => rfl
  | succ n ih => simp [storeBytes, ih]
@[simp] theorem storeBytes_x (y : Xlen) (n : Nat) (a v : Word) (c : Cpu) : (storeBytes y n a v c).x = c.x := by
  induction n generalizing a v c with
  | zero => rfl
  | succ n ih => simp [storeBytes, ih]
@[simp] theorem storeBytes_csr (y : Xlen) (n : Nat) (a v : Word) (c : Cpu) : (storeBytes y n a v c).csr = c.csr := by
  induction n generalizing a v c with
  | zero => rfl
  | succ n ih => simp [storeBytes, ih]
@[simp] theorem storeBytes_priv (y : Xlen) (n : Nat) (a v : Word) (c : Cpu) : (storeBytes y n a v c).priv = c.priv := by
  induction n generalizing a v c with
  | zero => rfl
  | succ n ih => simp [storeBytes, ih]
@[simp] theorem storeBytes_unmapped (y : Xlen) (n : Nat) (a v : Word) (c : Cpu) : (storeBytes y n a v c).unmapped = c.unmapped := by
  induction n generalizing a v c with
  | zero => rfl
  | succ n ih => simp [storeBytes, ih]
@[simp] theorem storeBytes_align (y : Xlen) (n : Nat) (a v : Word) (c : Cpu) : (storeBytes y n a v c).align = c.align := by
  induction n generalizing a v c with
  | zero => rfl
  | succ n ih => simp [storeBytes, ih]
@[simp] theorem enterM_pc (c : Cpu) (n : Nat) (v : Word) : (enterM c n v).pc = vectorPc c (csrGet c csrMtvec) := rfl
@[simp] theorem enterM_xlen (c : Cpu) (n : Nat) (v : Word) : (enterM c n v).xlen = c.xlen := rfl
@[simp] theorem enterM_x (c : Cpu) (n : Nat) (v : Word) : (enterM c n v).x = c.x := rfl
@[simp] theorem enterM_priv (c : Cpu) (n : Nat) (v : Word) : (enterM c n v).priv = .machine := rfl
@[simp] theorem enterM_mem (c : Cpu) (n : Nat) (v : Word) : (enterM c n v).mem = c.mem := rfl
@[simp] theorem enterM_unmapped (c : Cpu) (n : Nat) (v : Word) : (enterM c n v).unmapped = c.unmapped := rfl
@[simp] theorem enterM_align (c : Cpu) (n : Nat) (v : Word) : (enterM c n v).align = c.align := rfl
@[simp] theorem enterS_pc (c : Cpu) (n : Nat) (v : Word) : (enterS c n v).pc = vectorPc c (csrGet c csrStvec) := rfl
@[simp] theorem enterS_xlen (c : Cpu) (n : Nat) (v : Word) : (enterS c n v).xlen = c.xlen := rfl
@[simp] theorem enterS_x (c : Cpu) (n : Nat) (v : Word) : (enterS c n v).x = c.x := rfl
@[simp] theorem enterS_priv (c : Cpu) (n : Nat) (v : Word) : (enterS c n v).priv = .supervisor := rfl
@[simp] theorem enterS_mem (c : Cpu) (n : Nat) (v : Word) : (enterS c n v).mem = c.mem := rfl
@[simp] theorem enterS_unmapped (c : Cpu) (n : Nat) (v : Word) : (enterS c n v).unmapped = c.unmapped := rfl
@[simp] theorem enterS_align (c : Cpu) (n : Nat) (v : Word) : (enterS c n v).align = c.align := rfl
@[simp] theorem deliverWith_xlen (code : TrapKind → Nat) (k : TrapKind) (v : Word) (c : Cpu) : (deliverWith code k v c).xlen = c.xlen := by unfold deliverWith; split <;> simp
@[simp] theorem deliverWith_x (code : TrapKind → Nat) (k : TrapKind) (v : Word) (c : Cpu) : (deliverWith code k v c).x = c.x := by unfold deliverWith; split <;> simp
@[simp] theorem deliverWith_mem (code : TrapKind → Nat) (k : TrapKind) (v : Word) (c : Cpu) : (deliverWith code k v c).mem = c.mem := by unfold deliverWith; split <;> simp
@[simp] theorem deliverWith_unmapped (code : TrapKind → Nat) (k : TrapKind) (v : Word) (c : Cpu) : (deliverWith code k v c).unmapped = c.unmapped := by unfold deliverWith; split <;> simp
@[simp] theorem deliverWith_align (code : TrapKind → Nat) (k : TrapKind) (v : Word) (c : Cpu) : (deliverWith code k v c).align = c.align := by unfold deliverWith; split <;> simp
@[simp] theorem deliver_xlen (k : TrapKind) (v : Word) (c : Cpu) : (deliver k v c).xlen = c.xlen := deliverWith_xlen _ _ _ _
@[simp] theorem deliver_x (k : TrapKind) (v : Word) (c : Cpu) : (deliver k v c).x = c.x := deliverWith_x _ _ _ _
@[simp] theorem deliver_mem (k : TrapKind) (v : Word) (c : Cpu) : (deliver k v c).mem = c.mem := deliverWith_mem _ _ _ _
@[simp] theorem deliver_unmapped (k : TrapKind) (v : Word) (c : Cpu) : (deliver k v c).unmapped = c.unmapped := deliverWith_unmapped _ _ _ _
@[simp] theorem deliver_align (k : TrapKind) (v : Word) (c : Cpu) : (deliver k v c).align = c.align := deliverWith_align _ _ _ _
@[simp] theorem returnM_xlen (c : Cpu) : (returnM c).xlen = c.xlen := rfl
@[simp] theorem returnM_x (c : Cpu) : (returnM c).x = c.x := rfl
@[simp] theorem returnM_priv (c : Cpu) : (returnM c).priv = privOfBits (mppOf (csrGet c csrMstatus)) := rfl
@[simp] theorem returnM_mem (c : Cpu) : (returnM c).mem = c.mem := rfl
@[simp] theorem returnM_unmapped (c : Cpu) : (returnM c).unmapped = c.unmapped := rfl
@[simp] theorem returnM_align (c : Cpu) : (returnM c).align = c.align := rfl
@[simp] theorem returnS_xlen (c : Cpu) : (returnS c).xlen = c.xlen := rfl
@[simp] theorem returnS_x (c : Cpu) : (returnS c).x = c.x := rfl
@[simp] theorem returnS_priv (c : Cpu) : (returnS c).priv = sretPriv (csrGet c csrMstatus) := rfl
@[simp] theorem returnS_mem (c : Cpu) : (returnS c).mem = c.mem := rfl
@[simp] theorem returnS_unmapped (c : Cpu) : (returnS c).unmapped = c.unmapped := rfl
@[simp] theorem returnS_align (c : Cpu) : (returnS c).align = c.align := rfl

/-! ## Updates of the machine -/

@[simp] theorem setPc_cpu (v : Word) (s : State) : (setPc v s).cpu = { s.cpu with pc := v } := rfl
@[simp] theorem setPc_tree32 (v : Word) (s : State) : (setPc v s).tree32 = s.tree32 := rfl
@[simp] theorem setPc_tree64 (v : Word) (s : State) : (setPc v s).tree64 = s.tree64 := rfl
@[simp] theorem setPc_bind (v : Word) (s : State) : (setPc v s).bind = s.bind := rfl
@[simp] theorem setPc_bp (v : Word) (s : State) : (setPc v s).bp = s.bp := rfl
@[simp] theorem setPc_phase (v : Word) (s : State) : (setPc v s).phase = s.phase := rfl
@[simp] theorem setPc_lat (v : Word) (s : State) : (setPc v s).lat = s.lat := rfl
@[simp] theorem setPc_budget (v : Word) (s : State) : (setPc v s).budget = s.budget := rfl
@[simp] theorem setPc_outcome (v : Word) (s : State) : (setPc v s).outcome = s.outcome := rfl
@[simp] theorem setPc_calls (v : Word) (s : State) : (setPc v s).calls = s.calls := rfl
@[simp] theorem noteCall_cpu (k : Call) (s : State) : (noteCall k s).cpu = s.cpu := rfl
@[simp] theorem noteCall_tree32 (k : Call) (s : State) : (noteCall k s).tree32 = s.tree32 := rfl
@[simp] theorem noteCall_tree64 (k : Call) (s : State) : (noteCall k s).tree64 = s.tree64 := rfl
@[simp] theorem noteCall_bind (k : Call) (s : State) : (noteCall k s).bind = s.bind := rfl
@[simp] theorem noteCall_bp (k : Call) (s : State) : (noteCall k s).bp = s.bp := rfl
@[simp] theorem noteCall_phase (k : Call) (s : State) : (noteCall k s).phase = s.phase := rfl
@[simp] theorem noteCall_lat (k : Call) (s : State) : (noteCall k s).lat = s.lat := rfl
@[simp] theorem noteCall_budget (k : Call) (s : State) : (noteCall k s).budget = s.budget := rfl
@[simp] theorem noteCall_outcome (k : Call) (s : State) : (noteCall k s).outcome = s.outcome := rfl
@[simp] theorem noteCall_calls (k : Call) (s : State) : (noteCall k s).calls = s.calls ++ [k] := rfl
@[simp] theorem retire_cpu (s : State) : (retire s).cpu = s.cpu := rfl
@[simp] theorem retire_tree32 (s : State) : (retire s).tree32 = s.tree32 := rfl
@[simp] theorem retire_tree64 (s : State) : (retire s).tree64 = s.tree64 := rfl
@[simp] theorem retire_bind (s : State) : (retire s).bind = s.bind := rfl
@[simp] theorem retire_bp (s : State) : (retire s).bp = s.bp := rfl
@[simp] theorem retire_phase (s : State) : (retire s).phase = .idle := rfl
@[simp] theorem retire_lat (s : State) : (retire s).lat = s.lat := rfl
@[simp] theorem retire_budget (s : State) : (retire s).budget = s.budget := rfl
@[simp] theorem retire_outcome (s : State) : (retire s).outcome = some .retired := rfl
@[simp] theorem retire_calls (s : State) : (retire s).calls = s.calls := rfl
@[simp] theorem advance_cpu (n : Nat) (s : State) : (advance n s).cpu = { s.cpu with pc := s.lat.pc0 + widthWord n } := rfl
@[simp] theorem advance_tree32 (n : Nat) (s : State) : (advance n s).tree32 = s.tree32 := rfl
@[simp] theorem advance_tree64 (n : Nat) (s : State) : (advance n s).tree64 = s.tree64 := rfl
@[simp] theorem advance_bind (n : Nat) (s : State) : (advance n s).bind = s.bind := rfl
@[simp] theorem advance_bp (n : Nat) (s : State) : (advance n s).bp = s.bp := rfl
@[simp] theorem advance_phase (n : Nat) (s : State) : (advance n s).phase = s.phase := rfl
@[simp] theorem advance_lat (n : Nat) (s : State) : (advance n s).lat = s.lat := rfl
@[simp] theorem advance_budget (n : Nat) (s : State) : (advance n s).budget = s.budget := rfl
@[simp] theorem advance_outcome (n : Nat) (s : State) : (advance n s).outcome = s.outcome := rfl
@[simp] theorem advance_calls (n : Nat) (s : State) : (advance n s).calls = s.calls := rfl
@[simp] theorem setRes_cpu (r : DecideResult) (s : State) : (setRes r s).cpu = s.cpu := rfl
@[simp] theorem setRes_tree32 (r : DecideResult) (s : State) : (setRes r s).tree32 = s.tree32 := rfl
@[simp] theorem setRes_tree64 (r : DecideResult) (s : State) : (setRes r s).tree64 = s.tree64 := rfl
@[simp] theorem setRes_bind (r : DecideResult) (s : State) : (setRes r s).bind = s.bind := rfl
@[simp] theorem setRes_bp (r : DecideResult) (s : State) : (setRes r s).bp = s.bp := rfl
@[simp] theorem setRes_phase (r : DecideResult) (s : State) : (setRes r s).phase = s.phase := rfl
@[simp] theorem setRes_lat (r : DecideResult) (s : State) : (setRes r s).lat = { s.lat with res := r } := rfl
@[simp] theorem setRes_budget (r : DecideResult) (s : State) : (setRes r s).budget = s.budget := rfl
@[simp] theorem setRes_outcome (r : DecideResult) (s : State) : (setRes r s).outcome = s.outcome := rfl
@[simp] theorem setRes_calls (r : DecideResult) (s : State) : (setRes r s).calls = s.calls := rfl
@[simp] theorem fetchedLong_cpu (lo hi : Half) (s : State) : (fetchedLong lo hi s).cpu = s.cpu := rfl
@[simp] theorem fetchedLong_tree32 (lo hi : Half) (s : State) : (fetchedLong lo hi s).tree32 = s.tree32 := rfl
@[simp] theorem fetchedLong_tree64 (lo hi : Half) (s : State) : (fetchedLong lo hi s).tree64 = s.tree64 := rfl
@[simp] theorem fetchedLong_bind (lo hi : Half) (s : State) : (fetchedLong lo hi s).bind = s.bind := rfl
@[simp] theorem fetchedLong_bp (lo hi : Half) (s : State) : (fetchedLong lo hi s).bp = s.bp := rfl
@[simp] theorem fetchedLong_phase (lo hi : Half) (s : State) : (fetchedLong lo hi s).phase = .decode := rfl
@[simp] theorem fetchedLong_lat (lo hi : Half) (s : State) : (fetchedLong lo hi s).lat = { s.lat with lo16 := lo, hi16 := hi, opcode := longOpcode lo hi, ilen := 4 } := rfl
@[simp] theorem fetchedLong_budget (lo hi : Half) (s : State) : (fetchedLong lo hi s).budget = s.budget := rfl
@[simp] theorem fetchedLong_outcome (lo hi : Half) (s : State) : (fetchedLong lo hi s).outcome = s.outcome := rfl
@[simp] theorem fetchedLong_calls (lo hi : Half) (s : State) : (fetchedLong lo hi s).calls = s.calls := rfl
@[simp] theorem fetchedShort_cpu (lo : Half) (s : State) : (fetchedShort lo s).cpu = s.cpu := rfl
@[simp] theorem fetchedShort_tree32 (lo : Half) (s : State) : (fetchedShort lo s).tree32 = s.tree32 := rfl
@[simp] theorem fetchedShort_tree64 (lo : Half) (s : State) : (fetchedShort lo s).tree64 = s.tree64 := rfl
@[simp] theorem fetchedShort_bind (lo : Half) (s : State) : (fetchedShort lo s).bind = s.bind := rfl
@[simp] theorem fetchedShort_bp (lo : Half) (s : State) : (fetchedShort lo s).bp = s.bp := rfl
@[simp] theorem fetchedShort_phase (lo : Half) (s : State) : (fetchedShort lo s).phase = .decode := rfl
@[simp] theorem fetchedShort_lat (lo : Half) (s : State) : (fetchedShort lo s).lat = { s.lat with lo16 := lo, opcode := shortOpcode lo, ilen := 2 } := rfl
@[simp] theorem fetchedShort_budget (lo : Half) (s : State) : (fetchedShort lo s).budget = s.budget := rfl
@[simp] theorem fetchedShort_outcome (lo : Half) (s : State) : (fetchedShort lo s).outcome = s.outcome := rfl
@[simp] theorem fetchedShort_calls (lo : Half) (s : State) : (fetchedShort lo s).calls = s.calls := rfl
@[simp] theorem trapWith_cpu (d : TrapKind → Word → Cpu → Cpu) (k : TrapKind) (v : Word) (s : State) : (trapWith d k v s).cpu = d k v { s.cpu with pc := s.lat.pc0 } := rfl
@[simp] theorem trapWith_tree32 (d : TrapKind → Word → Cpu → Cpu) (k : TrapKind) (v : Word) (s : State) : (trapWith d k v s).tree32 = s.tree32 := rfl
@[simp] theorem trapWith_tree64 (d : TrapKind → Word → Cpu → Cpu) (k : TrapKind) (v : Word) (s : State) : (trapWith d k v s).tree64 = s.tree64 := rfl
@[simp] theorem trapWith_bind (d : TrapKind → Word → Cpu → Cpu) (k : TrapKind) (v : Word) (s : State) : (trapWith d k v s).bind = s.bind := rfl
@[simp] theorem trapWith_bp (d : TrapKind → Word → Cpu → Cpu) (k : TrapKind) (v : Word) (s : State) : (trapWith d k v s).bp = s.bp := rfl
@[simp] theorem trapWith_phase (d : TrapKind → Word → Cpu → Cpu) (k : TrapKind) (v : Word) (s : State) : (trapWith d k v s).phase = .idle := rfl
@[simp] theorem trapWith_lat (d : TrapKind → Word → Cpu → Cpu) (k : TrapKind) (v : Word) (s : State) : (trapWith d k v s).lat = s.lat := rfl
@[simp] theorem trapWith_budget (d : TrapKind → Word → Cpu → Cpu) (k : TrapKind) (v : Word) (s : State) : (trapWith d k v s).budget = s.budget := rfl
@[simp] theorem trapWith_outcome (d : TrapKind → Word → Cpu → Cpu) (k : TrapKind) (v : Word) (s : State) : (trapWith d k v s).outcome = some (.trapped k v) := rfl
@[simp] theorem trapWith_calls (d : TrapKind → Word → Cpu → Cpu) (k : TrapKind) (v : Word) (s : State) : (trapWith d k v s).calls = s.calls ++ [.deliver k v] := rfl
@[simp] theorem updatePc_tree32 (k : PcClass) (n : Nat) (t : Bool) (s : State) : (updatePc k n t s).tree32 = s.tree32 := by unfold updatePc; split <;> rfl
@[simp] theorem updatePc_tree64 (k : PcClass) (n : Nat) (t : Bool) (s : State) : (updatePc k n t s).tree64 = s.tree64 := by unfold updatePc; split <;> rfl
@[simp] theorem updatePc_bind (k : PcClass) (n : Nat) (t : Bool) (s : State) : (updatePc k n t s).bind = s.bind := by unfold updatePc; split <;> rfl
@[simp] theorem updatePc_bp (k : PcClass) (n : Nat) (t : Bool) (s : State) : (updatePc k n t s).bp = s.bp := by unfold updatePc; split <;> rfl
@[simp] theorem updatePc_phase (k : PcClass) (n : Nat) (t : Bool) (s : State) : (updatePc k n t s).phase = .idle := by unfold updatePc; split <;> rfl
@[simp] theorem updatePc_lat (k : PcClass) (n : Nat) (t : Bool) (s : State) : (updatePc k n t s).lat = s.lat := by unfold updatePc; split <;> rfl
@[simp] theorem updatePc_budget (k : PcClass) (n : Nat) (t : Bool) (s : State) : (updatePc k n t s).budget = s.budget := by unfold updatePc; split <;> rfl
@[simp] theorem updatePc_outcome (k : PcClass) (n : Nat) (t : Bool) (s : State) : (updatePc k n t s).outcome = some .retired := by unfold updatePc; split <;> rfl
@[simp] theorem updatePc_calls (k : PcClass) (n : Nat) (t : Bool) (s : State) : (updatePc k n t s).calls = s.calls := by unfold updatePc; split <;> rfl
@[simp] theorem conclude_tree32 (d : TrapKind → Word → Cpu → Cpu) (k : PcClass) (n : Nat) (s : State) (a : Answer) : (conclude d k n s a).tree32 = s.tree32 := by
  cases a <;> simp [conclude]
@[simp] theorem conclude_tree64 (d : TrapKind → Word → Cpu → Cpu) (k : PcClass) (n : Nat) (s : State) (a : Answer) : (conclude d k n s a).tree64 = s.tree64 := by
  cases a <;> simp [conclude]
@[simp] theorem conclude_bind (d : TrapKind → Word → Cpu → Cpu) (k : PcClass) (n : Nat) (s : State) (a : Answer) : (conclude d k n s a).bind = s.bind := by
  cases a <;> simp [conclude]
@[simp] theorem conclude_bp (d : TrapKind → Word → Cpu → Cpu) (k : PcClass) (n : Nat) (s : State) (a : Answer) : (conclude d k n s a).bp = s.bp := by
  cases a <;> simp [conclude]
@[simp] theorem conclude_budget (d : TrapKind → Word → Cpu → Cpu) (k : PcClass) (n : Nat) (s : State) (a : Answer) : (conclude d k n s a).budget = s.budget := by
  cases a <;> simp [conclude]
@[simp] theorem conclude_phase (d : TrapKind → Word → Cpu → Cpu) (k : PcClass) (n : Nat) (s : State) (a : Answer) : (conclude d k n s a).phase = .idle := by
  cases a <;> simp [conclude]
@[simp] theorem updatePc_cpu (k : PcClass) (n : Nat) (t : Bool) (s : State) : (updatePc k n t s).cpu = { s.cpu with pc := if advances k t then s.lat.pc0 + widthWord n else s.cpu.pc } := by
  unfold updatePc; split <;> simp_all

end Sys2Proof.Machine
end

