-- ==== Sys2Proof/Laws/Ops.lean ====
section
/-! SUPPORT. One lemma per shared operation over registers, CSRs, memory and answers: everything it can do. -/

namespace Sys2Proof.Machine

/-! ## Registers -/

@[simp] theorem readX_zero (c : Cpu) : readX c 0#5 = 0#64 := by simp [readX]

@[simp] theorem writeX_zero (c : Cpu) (v : Word) : writeX c 0#5 v = c := by simp [writeX]

/-- Reads see the registers only. -/
theorem readX_congr (c d : Cpu) (h : c.x = d.x) (r : BitVec 5) : readX c r = readX d r := by simp [readX, h]

/-- A register read after a register write. -/
theorem readX_writeX (c : Cpu) (rd r : BitVec 5) (v : Word) :
    readX (writeX c rd v) r = if r = rd then (if rd = 0#5 then 0#64 else canon c.xlen v) else readX c r := by
  by_cases hr : r = rd
  · subst hr
    by_cases h0 : r = 0#5
    · simp [h0]
    · simp [readX, writeX, h0]
  · by_cases h0 : rd = 0#5
    · simp [h0, writeX]; intro h; exact absurd (h.trans h0.symm) hr
    · by_cases hz : r = 0#5
      · subst hz; simp [hr]
      · have : rd.toNat ≠ r.toNat := fun h => hr (BitVec.eq_of_toNat_eq h.symm)
        simp [readX, writeX, h0, hz, hr, this]

@[simp] theorem readX_writePc (c : Cpu) (t : Word) (r : BitVec 5) : readX (writePc c t) r = readX c r := rfl

@[simp] theorem readX_withPc (c : Cpu) (t : Word) (r : BitVec 5) : readX { c with pc := t } r = readX c r := rfl

@[simp] theorem byteAt_withPc (c : Cpu) (t a : Word) : byteAt { c with pc := t } a = byteAt c a := rfl

@[simp] theorem byteAt_writeX (c : Cpu) (rd : BitVec 5) (v a : Word) : byteAt (writeX c rd v) a = byteAt c a := by
  simp [byteAt]

@[simp] theorem byteAt_writePc (c : Cpu) (t a : Word) : byteAt (writePc c t) a = byteAt c a := rfl

/-- The low half of a sign-extended low half. -/
theorem setWidth_signExtend_low (v : BitVec 32) : (v.signExtend 64).setWidth 32 = v := by
  ext i hi
  simp [BitVec.getLsbD_signExtend, hi, BitVec.getLsbD_eq_getElem]
  omega

/-- A value that a register holds is its own canonical form. -/
theorem canon_canon (x : Xlen) (v : Word) : canon x (canon x v) = canon x v := by
  cases x
  · simp only [canon, setWidth_signExtend_low]
  · rfl

@[simp] theorem canon_w64 (v : Word) : canon .w64 v = v := rfl
@[simp] theorem wrapAddr_w64 (v : Word) : wrapAddr .w64 v = v := rfl

/-! ## Addresses -/

/-- The width does not change bit 0 of an address. -/
@[simp] theorem isOdd_wrapAddr (x : Xlen) (a : Word) : isOdd (wrapAddr x a) = isOdd a := by
  cases x <;> simp [wrapAddr, isOdd]

/-- `evenAddr` clears bit 0. -/
@[simp] theorem isOdd_evenAddr (a : Word) : isOdd (evenAddr a) = false := by simp [evenAddr, isOdd]

/-- Bit 0 of a sum. -/
theorem isOdd_add (a b : Word) : isOdd (a + b) = xor (isOdd a) (isOdd b) := by
  simp only [isOdd, BitVec.getLsbD_add (show 0 < 64 by decide)]
  simp [BitVec.carry, Nat.mod_one]

/-- The base of a trap vector is even, or the vector is not configured and the address is the old `pc`. -/
theorem isOdd_vectorPc (c : Cpu) (v : Word) (h : isOdd c.pc = false) : isOdd (vectorPc c v) = false := by
  unfold vectorPc
  split
  · exact h
  · rw [isOdd_wrapAddr]; simp [isOdd]

/-! ## Control and status registers -/

/-- A CSR word read after a CSR word is stored. -/
theorem csrGet_csrPut (c : Cpu) (n m : BitVec 12) (v : Word) (h : Store.wf c.csr = true) :
    csrGet (csrPut c n v) m = if m = n then v else csrGet c m := by
  simp [csrGet, csrPut, Store.get_set c.csr n.toNat m.toNat v h, BitVec.toNat_inj]

theorem csrPut_wf (c : Cpu) (n : BitVec 12) (v : Word) (h : Store.wf c.csr = true) :
    Store.wf (csrPut c n v).csr = true := Store.wf_set _ _ _ h

theorem csrPut_keys (c : Cpu) (n : BitVec 12) (v : Word) (h : Store.keysBelow 4096 c.csr = true) :
    Store.keysBelow 4096 (csrPut c n v).csr = true := Store.keysBelow_set _ _ _ _ h n.isLt

/-- The canonical form of the CSR file of a CPU state. -/
def csrFileWf (c : Cpu) : Bool := Store.wf c.csr && Store.keysBelow 4096 c.csr

theorem csrFileWf_csrPut (c : Cpu) (n : BitVec 12) (v : Word) (h : csrFileWf c = true) :
    csrFileWf (csrPut c n v) = true := by
  simp only [csrFileWf, Bool.and_eq_true] at h ⊢
  exact ⟨csrPut_wf c n v h.1, csrPut_keys c n v h.2⟩

theorem csrFileWf_congr (c d : Cpu) (h : c.csr = d.csr) : csrFileWf c = csrFileWf d := by simp [csrFileWf, h]

theorem csrFileWf_csrWrite (c : Cpu) (n : BitVec 12) (v : Word) (h : csrFileWf c = true) :
    csrFileWf (csrWrite c n v) = true := by
  unfold csrWrite; split <;> exact csrFileWf_csrPut _ _ _ h

theorem csrFileWf_enterM (c : Cpu) (n : Nat) (v : Word) (h : csrFileWf c = true) : csrFileWf (enterM c n v) = true :=
  csrFileWf_csrPut _ _ _ (csrFileWf_csrPut _ _ _ (csrFileWf_csrPut _ _ _ (csrFileWf_csrPut _ _ _ h)))

theorem csrFileWf_enterS (c : Cpu) (n : Nat) (v : Word) (h : csrFileWf c = true) : csrFileWf (enterS c n v) = true :=
  csrFileWf_csrPut _ _ _ (csrFileWf_csrPut _ _ _ (csrFileWf_csrPut _ _ _ (csrFileWf_csrPut _ _ _ h)))

/-- Trap entry keeps the CSR file in canonical form. -/
theorem csrFileWf_deliverWith (code : TrapKind → Nat) (k : TrapKind) (v : Word) (c : Cpu) (h : csrFileWf c = true) :
    csrFileWf (deliverWith code k v c) = true := by
  unfold deliverWith; split
  · exact csrFileWf_enterS c _ v h
  · exact csrFileWf_enterM c _ v h

theorem csrFileWf_deliver (k : TrapKind) (v : Word) (c : Cpu) (h : csrFileWf c = true) : csrFileWf (deliver k v c) = true :=
  csrFileWf_deliverWith trapCode k v c h

/-- The mode that a trap enters: S when it is delegated, else M. -/
theorem deliverWith_priv (code : TrapKind → Nat) (k : TrapKind) (v : Word) (c : Cpu) :
    (deliverWith code k v c).priv = if delegated c (code k) then .supervisor else .machine := by
  unfold deliverWith; split <;> rfl

/-- The trap kind of a code of the reference numbering. -/
def trapKindOf (n : Nat) : TrapKind :=
  if 24 ≤ n then .other (n - 24)
  else ([.instructionAddressMisaligned, .instructionFetchFault .access, .illegalInstruction, .breakpoint, .loadAddressMisaligned,
    .loadAccessFault, .storeAddressMisaligned, .storeAccessFault, .envCallU, .envCallS, .other 0, .envCallM,
    .instructionFetchFault .page, .loadPageFault, .other 0, .storePageFault] : List TrapKind).getD n (.other 0)

theorem trapKindOf_trapCode (k : TrapKind) : trapKindOf (trapCode k) = k := by
  cases k with
  | instructionFetchFault a => cases a <;> rfl
  | other n => simp [trapKindOf, trapCode]
  | _ => rfl

/-- The reference numbering is injective, as TRAP_CODE must be (00_scope.md R4). -/
theorem trapCode_injective (j k : TrapKind) (h : trapCode j = trapCode k) : j = k := by
  rw [← trapKindOf_trapCode j, h, trapKindOf_trapCode]

/-! ## Answers -/

/-- A load: the value of its bytes, or the trap of the access with its address. -/
theorem loadAnswer_cases (c : Cpu) (rd : BitVec 5) (a : Word) (n : Nat) (e : Word → Word) :
    (dataTrap c n a = none ∧ loadAnswer c rd a n e = .done false (writeX c rd (e (loadBytes c n a)))) ∨
      ∃ k, dataTrap c n a = some k ∧ loadAnswer c rd a n e = .raise (loadTrap k) a c := by
  unfold loadAnswer
  cases h : dataTrap c n a with
  | none => exact .inl ⟨rfl, rfl⟩
  | some k => exact .inr ⟨k, rfl, rfl⟩

/-- A store: its bytes written, or the trap of the access with its address. -/
theorem storeAnswer_cases (c : Cpu) (a : Word) (n : Nat) (v : Word) :
    (dataTrap c n a = none ∧ storeAnswer c a n v = .done false (storeBytes c.xlen n a v c)) ∨
      ∃ k, dataTrap c n a = some k ∧ storeAnswer c a n v = .raise (storeTrap k) a c := by
  unfold storeAnswer
  cases h : dataTrap c n a with
  | none => exact .inl ⟨rfl, rfl⟩
  | some k => exact .inr ⟨k, rfl, rfl⟩

/-- A data access has no fault exactly when the page of each of its bytes is mapped. -/
theorem dataFault_none_iff (c : Cpu) (n : Nat) (a : Word) :
    dataFault c n a = none ↔ ∀ i < n, tagOf c.unmapped (pageOf (accessAddr c.xlen a i)) = none := by
  induction n generalizing a with
  | zero => simp [dataFault]
  | succ n ih =>
    unfold dataFault
    cases h : tagOf c.unmapped (pageOf a) with
    | some k =>
      simp only [reduceCtorEq, false_iff]
      intro hall
      have := hall 0 (Nat.zero_lt_succ n)
      simp [accessAddr, h] at this
    | none =>
      simp only [ih]
      constructor
      · intro hall i hi
        cases i with
        | zero => exact h
        | succ i => exact hall i (Nat.lt_of_succ_lt_succ hi)
      · intro hall i hi
        exact hall (i + 1) (Nat.succ_lt_succ hi)

/-- The traps of an access: misalignment first, else the first unmapped page. -/
theorem dataTrap_cases (c : Cpu) (n : Nat) (a : Word) :
    (misalignedAt c n a = true ∧ dataTrap c n a = some .misaligned) ∨
      (misalignedAt c n a = false ∧ dataTrap c n a = (dataFault c n a).map .unmapped) := by
  cases h : misalignedAt c n a
  · exact .inr ⟨rfl, by simp [dataTrap, h]⟩
  · exact .inl ⟨rfl, by simp [dataTrap, h]⟩

/-- A machine where misaligned accesses complete raises none for alignment. -/
theorem misalignedAt_completes (c : Cpu) (n : Nat) (a : Word) (h : c.align = .completes) : misalignedAt c n a = false := by
  simp [misalignedAt, h]

/-- A CSR access: the old value read and the new one written, or the illegal-instruction trap. -/
theorem csrAnswer_cases (c : Cpu) (i : Instr) (rd : BitVec 5) (n : BitVec 12) (w : Bool) (f : Word → Word) :
    (csrAllowed c n w = true ∧
      csrAnswer c i rd n w f = .done false (writeX (if w then csrWrite c n (f (csrRead c n)) else c) rd (csrRead c n))) ∨
      (csrAllowed c n w = false ∧ csrAnswer c i rd n w f = illegalAnswer c i) := by
  unfold csrAnswer
  cases h : csrAllowed c n w
  · exact .inr ⟨rfl, by simp⟩
  · exact .inl ⟨rfl, by simp⟩

/-! ## EXECUTE and UPDATE of one instruction -/

/-- A handler that raises: `pc` back to `pc0`, then delivered (R155, R160). -/
theorem conclude_raise (d : TrapKind → Word → Cpu → Cpu) (k : PcClass) (n : Nat) (s : State) (kind : TrapKind) (v : Word)
    (c : Cpu) :
    conclude d k n s (.raise kind v c) =
      { s with
        cpu := d kind v { c with pc := s.lat.pc0 }
        phase := .idle
        lat := { s.lat with out := .raise kind v }
        outcome := some (.trapped kind v)
        calls := s.calls ++ [.deliver kind v] } := rfl

/-- A handler that is done: `pc` advanced or kept, by class and `taken` (R156 to R159). -/
theorem conclude_done (d : TrapKind → Word → Cpu → Cpu) (k : PcClass) (n : Nat) (s : State) (t : Bool) (c : Cpu) :
    conclude d k n s (.done t c) =
      { s with
        cpu := { c with pc := if advances k t then s.lat.pc0 + widthWord n else c.pc }
        phase := .idle
        lat := { s.lat with out := .done t }
        outcome := some .retired } := by
  cases h : advances k t <;> simp [conclude, updatePc, h, retire, advance, setPc]

end Sys2Proof.Machine
end

