-- ==== Sys2Proof/Laws/Loop.lean ====
section
/-! SUPPORT. Laws of the dispatch loop: how the stages of a pass chain, and what each stage answers. -/

namespace Sys2Proof.Machine

@[simp] theorem continueAt_fault (p : Phase) (f : State → Result) (r : Fault) : continueAt p f (.fault r) = .fault r := rfl
@[simp] theorem continueAt_refused (p : Phase) (f : State → Result) (r : Refusal) :
    continueAt p f (.refused r) = .refused r := rfl

theorem continueAt_same (p : Phase) (f : State → Result) (s : State) (h : s.phase = p) : continueAt p f (.next s) = f s := by
  simp [continueAt, h]

theorem continueAt_other (p : Phase) (f : State → Result) (s : State) (h : s.phase ≠ p) :
    continueAt p f (.next s) = .next s := by simp [continueAt, h]

/-- The start of a pass that goes on to FETCH. -/
theorem startStage_fetch (s : State) (h : s.phase = .idle) (he : isOdd s.cpu.pc = false)
    (hb : breakpointAt s.bp s.cpu.pc = false) :
    startStage s = .next { s with
      lat := { s.lat with pc0 := s.cpu.pc, xlen0 := s.cpu.xlen }
      calls := []
      phase := .fetch
      outcome := none } := by
  simp [startStage, h, he, hb]

/-! ## Calls that return -/

@[simp] theorem afterCall_returns {α : Type} (f : α → Result) (a : α) : afterCall f (.returns a) = f a := rfl
@[simp] theorem afterCall_hangs {α : Type} (f : α → Result) : afterCall f .hangs = .fault .stuck := rfl
@[simp] theorem afterCall_commands {α : Type} (f : α → Result) : afterCall f .commands = .refused .commandInPass := rfl

/-- A trap through a `Deliver` that returns. -/
theorem raiseTrap_returns (d : TrapKind → Word → Cpu → Cpu) (k : TrapKind) (v : Word) (s : State) :
    raiseTrap (fun k v c => .returns (d k v c)) k v s = .next (trapWith d k v s) := rfl

/-- Everything that raising a trap can do: the call returns, never returns, or issues a host command. -/
theorem raiseTrap_cases (dlv : TrapKind → Word → Cpu → Reply Cpu) (k : TrapKind) (v : Word) (s : State) :
    (∃ u, dlv k v { s.cpu with pc := s.lat.pc0 } = .returns u ∧
        raiseTrap dlv k v s = .next { s with
          cpu := u
          phase := .idle
          outcome := some (.trapped k v)
          calls := s.calls ++ [.deliver k v] }) ∨
      (dlv k v { s.cpu with pc := s.lat.pc0 } = .hangs ∧ raiseTrap dlv k v s = .fault .stuck) ∨
      (dlv k v { s.cpu with pc := s.lat.pc0 } = .commands ∧ raiseTrap dlv k v s = .refused .commandInPass) := by
  unfold raiseTrap
  cases dlv k v { s.cpu with pc := s.lat.pc0 } with
  | returns u => exact .inl ⟨u, rfl, rfl⟩
  | hangs => exact .inr (.inl ⟨rfl, rfl⟩)
  | commands => exact .inr (.inr ⟨rfl, rfl⟩)

/-! ## What each stage answers -/

/-- What a stage that answers a next state leaves alone: the trees, the binding, the breakpoints, the budget, and the latches that
the start of the pass filled. -/
structure SameTables (s t : State) : Prop where
  tree32 : t.tree32 = s.tree32
  tree64 : t.tree64 = s.tree64
  bind   : t.bind = s.bind
  bp     : t.bp = s.bp
  budget : t.budget = s.budget
  pc0    : t.lat.pc0 = s.lat.pc0
  xlen0  : t.lat.xlen0 = s.lat.xlen0

theorem raiseTrap_next {dlv : TrapKind → Word → Cpu → Reply Cpu} {k : TrapKind} {v : Word} {s t : State}
    (h : raiseTrap dlv k v s = .next t) : t.phase = .idle ∧ SameTables s t := by
  obtain ⟨u, -, h'⟩ | ⟨-, h'⟩ | ⟨-, h'⟩ := raiseTrap_cases dlv k v s
  all_goals rw [h'] at h; cases h
  exact ⟨rfl, rfl, rfl, rfl, rfl, rfl, rfl, rfl⟩

theorem SameTables.of_noteCall {k : Call} {s t : State} (h : SameTables (noteCall k s) t) : SameTables s t :=
  ⟨h.tree32, h.tree64, h.bind, h.bp, h.budget, h.pc0, h.xlen0⟩

/-- After a first half-word that is the whole opcode. -/
theorem fetchedShort_same (lo : Half) (s : State) :
    (fetchedShort lo s).phase = .decode ∧ (fetchedShort lo s).cpu = s.cpu ∧ SameTables s (fetchedShort lo s) :=
  ⟨rfl, rfl, rfl, rfl, rfl, rfl, rfl, rfl, rfl⟩

/-- After a second half-word. -/
theorem fetchSecond_same (c : Collaborators) (lo : Half) (e : Nat) (a : Word) (s : State) :
    (fetchSecond c lo e a s).phase = .decode ∧ (fetchSecond c lo e a s).cpu = s.cpu ∧ SameTables s (fetchSecond c lo e a s) :=
  ⟨rfl, rfl, rfl, rfl, rfl, rfl, rfl, rfl, rfl⟩

/-- FETCH ends in a trap or, with the CPU state untouched, in DECODE; the tables stay. -/
theorem fetchStage_next {c : Collaborators} {s t : State} (h : fetchStage c s = .next t) :
    (t.phase = .idle ∨ t.phase = .decode ∧ t.cpu = s.cpu) ∧ SameTables s t := by
  unfold fetchStage at h
  simp only at h
  split at h
  · obtain ⟨hp, ht⟩ := raiseTrap_next h
    exact ⟨.inl hp, ht.of_noteCall⟩
  · split at h
    · split at h
      · split at h
        · obtain ⟨hp, ht⟩ := raiseTrap_next h
          exact ⟨.inl hp, ht.of_noteCall.of_noteCall.of_noteCall⟩
        · cases h
          obtain ⟨hp, hc, ht⟩ := fetchSecond_same c _ _ _ _
          exact ⟨.inr ⟨hp, hc⟩, ht.of_noteCall.of_noteCall.of_noteCall⟩
      · cases h
        obtain ⟨hp, hc, ht⟩ := fetchSecond_same c _ _ _ _
        exact ⟨.inr ⟨hp, hc⟩, ht.of_noteCall.of_noteCall⟩
    · cases h
      obtain ⟨hp, hc, ht⟩ := fetchedShort_same _ _
      exact ⟨.inr ⟨hp, hc⟩, ht.of_noteCall.of_noteCall⟩

/-- DECODE ends the pass or, with the CPU state untouched, goes on to EXTRACT-ARGS; the opcode and the tables stay. -/
theorem decodeStage_next {c : Collaborators} {s t : State} (h : decodeStage c s = .next t) :
    (t.phase = .idle ∨ t.phase = .extract ∧ t.cpu = s.cpu) ∧ t.lat.opcode = s.lat.opcode ∧
      t.lat.res = decideTree (treeOf s s.lat.xlen0) s.lat.opcode ∧ SameTables s t := by
  unfold decodeStage at h
  generalize decideTree (treeOf s s.lat.xlen0) s.lat.opcode = r at h ⊢
  cases r with
  | illegal =>
    obtain ⟨u, -, h'⟩ | ⟨-, h'⟩ | ⟨-, h'⟩ :=
      raiseTrap_cases c.deliver .illegalInstruction (s.lat.opcode.setWidth 64) (setRes .illegal s)
    all_goals simp only [h'] at h; cases h
    exact ⟨.inl rfl, rfl, rfl, rfl, rfl, rfl, rfl, rfl, rfl, rfl⟩
  | nop d => cases h; exact ⟨.inl rfl, rfl, rfl, rfl, rfl, rfl, rfl, rfl, rfl, rfl⟩
  | decl d => cases h; exact ⟨.inr ⟨rfl, rfl⟩, rfl, rfl, rfl, rfl, rfl, rfl, rfl, rfl, rfl⟩

/-- A handler's answer ends the pass or goes on to UPDATE-PC; the tables stay. -/
theorem takeAnswer_next {dlv : TrapKind → Word → Cpu → Reply Cpu} {s t : State} {a : Answer}
    (h : takeAnswer dlv s a = .next t) : (t.phase = .idle ∨ t.phase = .update) ∧ SameTables s t := by
  cases a with
  | done b c => cases h; exact ⟨.inr rfl, rfl, rfl, rfl, rfl, rfl, rfl, rfl⟩
  | raise k v c =>
    obtain ⟨hp, ht⟩ := raiseTrap_next h
    exact ⟨.inl hp, ht.tree32, ht.tree64, ht.bind, ht.bp, ht.budget, ht.pc0, ht.xlen0⟩

/-- EXECUTE followed by UPDATE-PC, with a `Deliver` that returns, is what a meaning concludes with. -/
theorem conclude_eq (d : TrapKind → Word → Cpu → Cpu) (s : State) (a : Answer) (dec : Declaration)
    (hr : s.lat.res = .decl dec) :
    continueAt .update updateStage (takeAnswer (fun k v c => .returns (d k v c)) s a) =
      .next (conclude d dec.pcclass dec.width s a) := by
  cases a with
  | done t c =>
    cases h : advances dec.pcclass t <;>
      simp [continueAt, takeAnswer, updateStage, hr, takenOf, conclude, updatePc, h, retire, advance, setPc]
  | raise k v c => simp [continueAt, takeAnswer, conclude, raiseTrap_returns]

end Sys2Proof.Machine
end

