-- ==== Sys2Proof/Laws/PerInstr.lean ====
section
/-! SUPPORT. Per-instruction laws of the syntax: the declaration of every instruction is well-formed, is the reference
declaration of its mnemonic and variant, and has one field for each operand. -/

namespace Sys2Proof.Laws.Arity

open Sys2Proof

/-- The declaration is well-formed (40_declaration_model.md R83), the reference one of its mnemonic and variant, and has one
field for each operand (43_application.md R130). -/
def Statement (i : Instr) : Prop :=
  i.decl.wf = true ∧ refDecl i.decl.mnemonic i.decl.variant = some i.decl ∧ i.args.length = i.decl.fields.length

theorem lui (rd : BitVec 5) (imm : BitVec 32) : Statement (.lui rd imm) := ⟨(by decide : Ref.lui.wf = true), rfl, rfl⟩
theorem auipc (rd : BitVec 5) (imm : BitVec 32) : Statement (.auipc rd imm) := ⟨(by decide : Ref.auipc.wf = true), rfl, rfl⟩
theorem jal (rd : BitVec 5) (imm : BitVec 21) : Statement (.jal rd imm) := ⟨(by decide : Ref.jal.wf = true), rfl, rfl⟩
theorem jalr (rd : BitVec 5) (rs1 : BitVec 5) (imm : BitVec 12) : Statement (.jalr rd rs1 imm) := ⟨(by decide : Ref.jalr.wf = true), rfl, rfl⟩
theorem beq (rs1 : BitVec 5) (rs2 : BitVec 5) (imm : BitVec 13) : Statement (.beq rs1 rs2 imm) := ⟨(by decide : Ref.beq.wf = true), rfl, rfl⟩
theorem bne (rs1 : BitVec 5) (rs2 : BitVec 5) (imm : BitVec 13) : Statement (.bne rs1 rs2 imm) := ⟨(by decide : Ref.bne.wf = true), rfl, rfl⟩
theorem blt (rs1 : BitVec 5) (rs2 : BitVec 5) (imm : BitVec 13) : Statement (.blt rs1 rs2 imm) := ⟨(by decide : Ref.blt.wf = true), rfl, rfl⟩
theorem bge (rs1 : BitVec 5) (rs2 : BitVec 5) (imm : BitVec 13) : Statement (.bge rs1 rs2 imm) := ⟨(by decide : Ref.bge.wf = true), rfl, rfl⟩
theorem bltu (rs1 : BitVec 5) (rs2 : BitVec 5) (imm : BitVec 13) : Statement (.bltu rs1 rs2 imm) := ⟨(by decide : Ref.bltu.wf = true), rfl, rfl⟩
theorem bgeu (rs1 : BitVec 5) (rs2 : BitVec 5) (imm : BitVec 13) : Statement (.bgeu rs1 rs2 imm) := ⟨(by decide : Ref.bgeu.wf = true), rfl, rfl⟩
theorem lb (rd : BitVec 5) (rs1 : BitVec 5) (imm : BitVec 12) : Statement (.lb rd rs1 imm) := ⟨(by decide : Ref.lb.wf = true), rfl, rfl⟩
theorem lh (rd : BitVec 5) (rs1 : BitVec 5) (imm : BitVec 12) : Statement (.lh rd rs1 imm) := ⟨(by decide : Ref.lh.wf = true), rfl, rfl⟩
theorem lw (rd : BitVec 5) (rs1 : BitVec 5) (imm : BitVec 12) : Statement (.lw rd rs1 imm) := ⟨(by decide : Ref.lw.wf = true), rfl, rfl⟩
theorem lbu (rd : BitVec 5) (rs1 : BitVec 5) (imm : BitVec 12) : Statement (.lbu rd rs1 imm) := ⟨(by decide : Ref.lbu.wf = true), rfl, rfl⟩
theorem lhu (rd : BitVec 5) (rs1 : BitVec 5) (imm : BitVec 12) : Statement (.lhu rd rs1 imm) := ⟨(by decide : Ref.lhu.wf = true), rfl, rfl⟩
theorem sb (rs1 : BitVec 5) (rs2 : BitVec 5) (imm : BitVec 12) : Statement (.sb rs1 rs2 imm) := ⟨(by decide : Ref.sb.wf = true), rfl, rfl⟩
theorem sh (rs1 : BitVec 5) (rs2 : BitVec 5) (imm : BitVec 12) : Statement (.sh rs1 rs2 imm) := ⟨(by decide : Ref.sh.wf = true), rfl, rfl⟩
theorem sw (rs1 : BitVec 5) (rs2 : BitVec 5) (imm : BitVec 12) : Statement (.sw rs1 rs2 imm) := ⟨(by decide : Ref.sw.wf = true), rfl, rfl⟩
theorem addi (rd : BitVec 5) (rs1 : BitVec 5) (imm : BitVec 12) : Statement (.addi rd rs1 imm) := ⟨(by decide : Ref.addi.wf = true), rfl, rfl⟩
theorem slti (rd : BitVec 5) (rs1 : BitVec 5) (imm : BitVec 12) : Statement (.slti rd rs1 imm) := ⟨(by decide : Ref.slti.wf = true), rfl, rfl⟩
theorem sltiu (rd : BitVec 5) (rs1 : BitVec 5) (imm : BitVec 12) : Statement (.sltiu rd rs1 imm) := ⟨(by decide : Ref.sltiu.wf = true), rfl, rfl⟩
theorem xori (rd : BitVec 5) (rs1 : BitVec 5) (imm : BitVec 12) : Statement (.xori rd rs1 imm) := ⟨(by decide : Ref.xori.wf = true), rfl, rfl⟩
theorem ori (rd : BitVec 5) (rs1 : BitVec 5) (imm : BitVec 12) : Statement (.ori rd rs1 imm) := ⟨(by decide : Ref.ori.wf = true), rfl, rfl⟩
theorem andi (rd : BitVec 5) (rs1 : BitVec 5) (imm : BitVec 12) : Statement (.andi rd rs1 imm) := ⟨(by decide : Ref.andi.wf = true), rfl, rfl⟩
theorem slli32 (rd : BitVec 5) (rs1 : BitVec 5) (shamt : BitVec 5) : Statement (.slli32 rd rs1 shamt) := ⟨(by decide : Ref.slli32.wf = true), rfl, rfl⟩
theorem srli32 (rd : BitVec 5) (rs1 : BitVec 5) (shamt : BitVec 5) : Statement (.srli32 rd rs1 shamt) := ⟨(by decide : Ref.srli32.wf = true), rfl, rfl⟩
theorem srai32 (rd : BitVec 5) (rs1 : BitVec 5) (shamt : BitVec 5) : Statement (.srai32 rd rs1 shamt) := ⟨(by decide : Ref.srai32.wf = true), rfl, rfl⟩
theorem slli64 (rd : BitVec 5) (rs1 : BitVec 5) (shamt : BitVec 6) : Statement (.slli64 rd rs1 shamt) := ⟨(by decide : Ref.slli64.wf = true), rfl, rfl⟩
theorem srli64 (rd : BitVec 5) (rs1 : BitVec 5) (shamt : BitVec 6) : Statement (.srli64 rd rs1 shamt) := ⟨(by decide : Ref.srli64.wf = true), rfl, rfl⟩
theorem srai64 (rd : BitVec 5) (rs1 : BitVec 5) (shamt : BitVec 6) : Statement (.srai64 rd rs1 shamt) := ⟨(by decide : Ref.srai64.wf = true), rfl, rfl⟩
theorem add (rd : BitVec 5) (rs1 : BitVec 5) (rs2 : BitVec 5) : Statement (.add rd rs1 rs2) := ⟨(by decide : Ref.add.wf = true), rfl, rfl⟩
theorem sub (rd : BitVec 5) (rs1 : BitVec 5) (rs2 : BitVec 5) : Statement (.sub rd rs1 rs2) := ⟨(by decide : Ref.sub.wf = true), rfl, rfl⟩
theorem sll (rd : BitVec 5) (rs1 : BitVec 5) (rs2 : BitVec 5) : Statement (.sll rd rs1 rs2) := ⟨(by decide : Ref.sll.wf = true), rfl, rfl⟩
theorem slt (rd : BitVec 5) (rs1 : BitVec 5) (rs2 : BitVec 5) : Statement (.slt rd rs1 rs2) := ⟨(by decide : Ref.slt.wf = true), rfl, rfl⟩
theorem sltu (rd : BitVec 5) (rs1 : BitVec 5) (rs2 : BitVec 5) : Statement (.sltu rd rs1 rs2) := ⟨(by decide : Ref.sltu.wf = true), rfl, rfl⟩
theorem xor (rd : BitVec 5) (rs1 : BitVec 5) (rs2 : BitVec 5) : Statement (.xor rd rs1 rs2) := ⟨(by decide : Ref.xor.wf = true), rfl, rfl⟩
theorem srl (rd : BitVec 5) (rs1 : BitVec 5) (rs2 : BitVec 5) : Statement (.srl rd rs1 rs2) := ⟨(by decide : Ref.srl.wf = true), rfl, rfl⟩
theorem sra (rd : BitVec 5) (rs1 : BitVec 5) (rs2 : BitVec 5) : Statement (.sra rd rs1 rs2) := ⟨(by decide : Ref.sra.wf = true), rfl, rfl⟩
theorem or (rd : BitVec 5) (rs1 : BitVec 5) (rs2 : BitVec 5) : Statement (.or rd rs1 rs2) := ⟨(by decide : Ref.or.wf = true), rfl, rfl⟩
theorem and (rd : BitVec 5) (rs1 : BitVec 5) (rs2 : BitVec 5) : Statement (.and rd rs1 rs2) := ⟨(by decide : Ref.and.wf = true), rfl, rfl⟩
theorem fence : Statement .fence := ⟨(by decide : Ref.fence.wf = true), rfl, rfl⟩
theorem ecall : Statement .ecall := ⟨(by decide : Ref.ecall.wf = true), rfl, rfl⟩
theorem ebreak : Statement .ebreak := ⟨(by decide : Ref.ebreak.wf = true), rfl, rfl⟩
theorem lwu (rd : BitVec 5) (rs1 : BitVec 5) (imm : BitVec 12) : Statement (.lwu rd rs1 imm) := ⟨(by decide : Ref.lwu.wf = true), rfl, rfl⟩
theorem ld (rd : BitVec 5) (rs1 : BitVec 5) (imm : BitVec 12) : Statement (.ld rd rs1 imm) := ⟨(by decide : Ref.ld.wf = true), rfl, rfl⟩
theorem sd (rs1 : BitVec 5) (rs2 : BitVec 5) (imm : BitVec 12) : Statement (.sd rs1 rs2 imm) := ⟨(by decide : Ref.sd.wf = true), rfl, rfl⟩
theorem addiw (rd : BitVec 5) (rs1 : BitVec 5) (imm : BitVec 12) : Statement (.addiw rd rs1 imm) := ⟨(by decide : Ref.addiw.wf = true), rfl, rfl⟩
theorem slliw (rd : BitVec 5) (rs1 : BitVec 5) (shamt : BitVec 5) : Statement (.slliw rd rs1 shamt) := ⟨(by decide : Ref.slliw.wf = true), rfl, rfl⟩
theorem srliw (rd : BitVec 5) (rs1 : BitVec 5) (shamt : BitVec 5) : Statement (.srliw rd rs1 shamt) := ⟨(by decide : Ref.srliw.wf = true), rfl, rfl⟩
theorem sraiw (rd : BitVec 5) (rs1 : BitVec 5) (shamt : BitVec 5) : Statement (.sraiw rd rs1 shamt) := ⟨(by decide : Ref.sraiw.wf = true), rfl, rfl⟩
theorem addw (rd : BitVec 5) (rs1 : BitVec 5) (rs2 : BitVec 5) : Statement (.addw rd rs1 rs2) := ⟨(by decide : Ref.addw.wf = true), rfl, rfl⟩
theorem subw (rd : BitVec 5) (rs1 : BitVec 5) (rs2 : BitVec 5) : Statement (.subw rd rs1 rs2) := ⟨(by decide : Ref.subw.wf = true), rfl, rfl⟩
theorem sllw (rd : BitVec 5) (rs1 : BitVec 5) (rs2 : BitVec 5) : Statement (.sllw rd rs1 rs2) := ⟨(by decide : Ref.sllw.wf = true), rfl, rfl⟩
theorem srlw (rd : BitVec 5) (rs1 : BitVec 5) (rs2 : BitVec 5) : Statement (.srlw rd rs1 rs2) := ⟨(by decide : Ref.srlw.wf = true), rfl, rfl⟩
theorem sraw (rd : BitVec 5) (rs1 : BitVec 5) (rs2 : BitVec 5) : Statement (.sraw rd rs1 rs2) := ⟨(by decide : Ref.sraw.wf = true), rfl, rfl⟩
theorem fenceI : Statement .fenceI := ⟨(by decide : Ref.fenceI.wf = true), rfl, rfl⟩
theorem csrrw (rd : BitVec 5) (rs1 : BitVec 5) (csr : BitVec 12) : Statement (.csrrw rd rs1 csr) := ⟨(by decide : Ref.csrrw.wf = true), rfl, rfl⟩
theorem csrrs (rd : BitVec 5) (rs1 : BitVec 5) (csr : BitVec 12) : Statement (.csrrs rd rs1 csr) := ⟨(by decide : Ref.csrrs.wf = true), rfl, rfl⟩
theorem csrrc (rd : BitVec 5) (rs1 : BitVec 5) (csr : BitVec 12) : Statement (.csrrc rd rs1 csr) := ⟨(by decide : Ref.csrrc.wf = true), rfl, rfl⟩
theorem csrrwi (rd : BitVec 5) (uimm : BitVec 5) (csr : BitVec 12) : Statement (.csrrwi rd uimm csr) := ⟨(by decide : Ref.csrrwi.wf = true), rfl, rfl⟩
theorem csrrsi (rd : BitVec 5) (uimm : BitVec 5) (csr : BitVec 12) : Statement (.csrrsi rd uimm csr) := ⟨(by decide : Ref.csrrsi.wf = true), rfl, rfl⟩
theorem csrrci (rd : BitVec 5) (uimm : BitVec 5) (csr : BitVec 12) : Statement (.csrrci rd uimm csr) := ⟨(by decide : Ref.csrrci.wf = true), rfl, rfl⟩
theorem sret : Statement .sret := ⟨(by decide : Ref.sret.wf = true), rfl, rfl⟩
theorem mret : Statement .mret := ⟨(by decide : Ref.mret.wf = true), rfl, rfl⟩
theorem wfi : Statement .wfi := ⟨(by decide : Ref.wfi.wf = true), rfl, rfl⟩
theorem sfenceVma (rs1 : BitVec 5) (rs2 : BitVec 5) : Statement (.sfenceVma rs1 rs2) := ⟨(by decide : Ref.sfenceVma.wf = true), rfl, rfl⟩
theorem mul (rd : BitVec 5) (rs1 : BitVec 5) (rs2 : BitVec 5) : Statement (.mul rd rs1 rs2) := ⟨(by decide : Ref.mul.wf = true), rfl, rfl⟩
theorem mulh (rd : BitVec 5) (rs1 : BitVec 5) (rs2 : BitVec 5) : Statement (.mulh rd rs1 rs2) := ⟨(by decide : Ref.mulh.wf = true), rfl, rfl⟩
theorem mulhsu (rd : BitVec 5) (rs1 : BitVec 5) (rs2 : BitVec 5) : Statement (.mulhsu rd rs1 rs2) := ⟨(by decide : Ref.mulhsu.wf = true), rfl, rfl⟩
theorem mulhu (rd : BitVec 5) (rs1 : BitVec 5) (rs2 : BitVec 5) : Statement (.mulhu rd rs1 rs2) := ⟨(by decide : Ref.mulhu.wf = true), rfl, rfl⟩
theorem div (rd : BitVec 5) (rs1 : BitVec 5) (rs2 : BitVec 5) : Statement (.div rd rs1 rs2) := ⟨(by decide : Ref.div.wf = true), rfl, rfl⟩
theorem divu (rd : BitVec 5) (rs1 : BitVec 5) (rs2 : BitVec 5) : Statement (.divu rd rs1 rs2) := ⟨(by decide : Ref.divu.wf = true), rfl, rfl⟩
theorem rem (rd : BitVec 5) (rs1 : BitVec 5) (rs2 : BitVec 5) : Statement (.rem rd rs1 rs2) := ⟨(by decide : Ref.rem.wf = true), rfl, rfl⟩
theorem remu (rd : BitVec 5) (rs1 : BitVec 5) (rs2 : BitVec 5) : Statement (.remu rd rs1 rs2) := ⟨(by decide : Ref.remu.wf = true), rfl, rfl⟩
theorem mulw (rd : BitVec 5) (rs1 : BitVec 5) (rs2 : BitVec 5) : Statement (.mulw rd rs1 rs2) := ⟨(by decide : Ref.mulw.wf = true), rfl, rfl⟩
theorem divw (rd : BitVec 5) (rs1 : BitVec 5) (rs2 : BitVec 5) : Statement (.divw rd rs1 rs2) := ⟨(by decide : Ref.divw.wf = true), rfl, rfl⟩
theorem divuw (rd : BitVec 5) (rs1 : BitVec 5) (rs2 : BitVec 5) : Statement (.divuw rd rs1 rs2) := ⟨(by decide : Ref.divuw.wf = true), rfl, rfl⟩
theorem remw (rd : BitVec 5) (rs1 : BitVec 5) (rs2 : BitVec 5) : Statement (.remw rd rs1 rs2) := ⟨(by decide : Ref.remw.wf = true), rfl, rfl⟩
theorem remuw (rd : BitVec 5) (rs1 : BitVec 5) (rs2 : BitVec 5) : Statement (.remuw rd rs1 rs2) := ⟨(by decide : Ref.remuw.wf = true), rfl, rfl⟩
theorem illegalCAddi4spnZ : Statement .illegalCAddi4spnZ := ⟨(by decide : Ref.illegalCAddi4spnZ.wf = true), rfl, rfl⟩
theorem cAddi4spn (rdP : BitVec 3) (nzuimm : BitVec 10) : Statement (.cAddi4spn rdP nzuimm) := ⟨(by decide : Ref.cAddi4spn.wf = true), rfl, rfl⟩
theorem cLw (rdP : BitVec 3) (rs1P : BitVec 3) (uimm : BitVec 7) : Statement (.cLw rdP rs1P uimm) := ⟨(by decide : Ref.cLw.wf = true), rfl, rfl⟩
theorem cLd (rdP : BitVec 3) (rs1P : BitVec 3) (uimm : BitVec 8) : Statement (.cLd rdP rs1P uimm) := ⟨(by decide : Ref.cLd.wf = true), rfl, rfl⟩
theorem cSw (rs1P : BitVec 3) (rs2P : BitVec 3) (uimm : BitVec 7) : Statement (.cSw rs1P rs2P uimm) := ⟨(by decide : Ref.cSw.wf = true), rfl, rfl⟩
theorem cSd (rs1P : BitVec 3) (rs2P : BitVec 3) (uimm : BitVec 8) : Statement (.cSd rs1P rs2P uimm) := ⟨(by decide : Ref.cSd.wf = true), rfl, rfl⟩
theorem cNop : Statement .cNop := ⟨(by decide : Ref.cNop.wf = true), rfl, rfl⟩
theorem cAddi (rd : BitVec 5) (imm : BitVec 6) : Statement (.cAddi rd imm) := ⟨(by decide : Ref.cAddi.wf = true), rfl, rfl⟩
theorem cJal (imm : BitVec 12) : Statement (.cJal imm) := ⟨(by decide : Ref.cJal.wf = true), rfl, rfl⟩
theorem illegalCAddiwRd0 : Statement .illegalCAddiwRd0 := ⟨(by decide : Ref.illegalCAddiwRd0.wf = true), rfl, rfl⟩
theorem cAddiw (rd : BitVec 5) (imm : BitVec 6) : Statement (.cAddiw rd imm) := ⟨(by decide : Ref.cAddiw.wf = true), rfl, rfl⟩
theorem cLi (rd : BitVec 5) (imm : BitVec 6) : Statement (.cLi rd imm) := ⟨(by decide : Ref.cLi.wf = true), rfl, rfl⟩
theorem illegalCAddi16spZ : Statement .illegalCAddi16spZ := ⟨(by decide : Ref.illegalCAddi16spZ.wf = true), rfl, rfl⟩
theorem cAddi16sp (nzimm : BitVec 10) : Statement (.cAddi16sp nzimm) := ⟨(by decide : Ref.cAddi16sp.wf = true), rfl, rfl⟩
theorem illegalCLuiZ : Statement .illegalCLuiZ := ⟨(by decide : Ref.illegalCLuiZ.wf = true), rfl, rfl⟩
theorem cLui (rd : BitVec 5) (nzimm : BitVec 18) : Statement (.cLui rd nzimm) := ⟨(by decide : Ref.cLui.wf = true), rfl, rfl⟩
theorem cSrli32 (rdP : BitVec 3) (shamt : BitVec 5) : Statement (.cSrli32 rdP shamt) := ⟨(by decide : Ref.cSrli32.wf = true), rfl, rfl⟩
theorem cSrai32 (rdP : BitVec 3) (shamt : BitVec 5) : Statement (.cSrai32 rdP shamt) := ⟨(by decide : Ref.cSrai32.wf = true), rfl, rfl⟩
theorem cSrli64 (rdP : BitVec 3) (shamt : BitVec 6) : Statement (.cSrli64 rdP shamt) := ⟨(by decide : Ref.cSrli64.wf = true), rfl, rfl⟩
theorem cSrai64 (rdP : BitVec 3) (shamt : BitVec 6) : Statement (.cSrai64 rdP shamt) := ⟨(by decide : Ref.cSrai64.wf = true), rfl, rfl⟩
theorem cAndi (rdP : BitVec 3) (imm : BitVec 6) : Statement (.cAndi rdP imm) := ⟨(by decide : Ref.cAndi.wf = true), rfl, rfl⟩
theorem cSub (rdP : BitVec 3) (rs2P : BitVec 3) : Statement (.cSub rdP rs2P) := ⟨(by decide : Ref.cSub.wf = true), rfl, rfl⟩
theorem cXor (rdP : BitVec 3) (rs2P : BitVec 3) : Statement (.cXor rdP rs2P) := ⟨(by decide : Ref.cXor.wf = true), rfl, rfl⟩
theorem cOr (rdP : BitVec 3) (rs2P : BitVec 3) : Statement (.cOr rdP rs2P) := ⟨(by decide : Ref.cOr.wf = true), rfl, rfl⟩
theorem cAnd (rdP : BitVec 3) (rs2P : BitVec 3) : Statement (.cAnd rdP rs2P) := ⟨(by decide : Ref.cAnd.wf = true), rfl, rfl⟩
theorem cSubw (rdP : BitVec 3) (rs2P : BitVec 3) : Statement (.cSubw rdP rs2P) := ⟨(by decide : Ref.cSubw.wf = true), rfl, rfl⟩
theorem cAddw (rdP : BitVec 3) (rs2P : BitVec 3) : Statement (.cAddw rdP rs2P) := ⟨(by decide : Ref.cAddw.wf = true), rfl, rfl⟩
theorem cJ (imm : BitVec 12) : Statement (.cJ imm) := ⟨(by decide : Ref.cJ.wf = true), rfl, rfl⟩
theorem cBeqz (rs1P : BitVec 3) (imm : BitVec 9) : Statement (.cBeqz rs1P imm) := ⟨(by decide : Ref.cBeqz.wf = true), rfl, rfl⟩
theorem cBnez (rs1P : BitVec 3) (imm : BitVec 9) : Statement (.cBnez rs1P imm) := ⟨(by decide : Ref.cBnez.wf = true), rfl, rfl⟩
theorem cSlli32 (rd : BitVec 5) (shamt : BitVec 5) : Statement (.cSlli32 rd shamt) := ⟨(by decide : Ref.cSlli32.wf = true), rfl, rfl⟩
theorem cSlli64 (rd : BitVec 5) (shamt : BitVec 6) : Statement (.cSlli64 rd shamt) := ⟨(by decide : Ref.cSlli64.wf = true), rfl, rfl⟩
theorem illegalCLwspRd0 : Statement .illegalCLwspRd0 := ⟨(by decide : Ref.illegalCLwspRd0.wf = true), rfl, rfl⟩
theorem cLwsp (rd : BitVec 5) (uimm : BitVec 8) : Statement (.cLwsp rd uimm) := ⟨(by decide : Ref.cLwsp.wf = true), rfl, rfl⟩
theorem illegalCLdspRd0 : Statement .illegalCLdspRd0 := ⟨(by decide : Ref.illegalCLdspRd0.wf = true), rfl, rfl⟩
theorem cLdsp (rd : BitVec 5) (uimm : BitVec 9) : Statement (.cLdsp rd uimm) := ⟨(by decide : Ref.cLdsp.wf = true), rfl, rfl⟩
theorem illegalCJrRs1z : Statement .illegalCJrRs1z := ⟨(by decide : Ref.illegalCJrRs1z.wf = true), rfl, rfl⟩
theorem cJr (rs1 : BitVec 5) : Statement (.cJr rs1) := ⟨(by decide : Ref.cJr.wf = true), rfl, rfl⟩
theorem cMv (rd : BitVec 5) (rs2 : BitVec 5) : Statement (.cMv rd rs2) := ⟨(by decide : Ref.cMv.wf = true), rfl, rfl⟩
theorem cEbreak : Statement .cEbreak := ⟨(by decide : Ref.cEbreak.wf = true), rfl, rfl⟩
theorem cJalr (rs1 : BitVec 5) : Statement (.cJalr rs1) := ⟨(by decide : Ref.cJalr.wf = true), rfl, rfl⟩
theorem cAdd (rd : BitVec 5) (rs2 : BitVec 5) : Statement (.cAdd rd rs2) := ⟨(by decide : Ref.cAdd.wf = true), rfl, rfl⟩
theorem cSwsp (rs2 : BitVec 5) (uimm : BitVec 8) : Statement (.cSwsp rs2 uimm) := ⟨(by decide : Ref.cSwsp.wf = true), rfl, rfl⟩
theorem cSdsp (rs2 : BitVec 5) (uimm : BitVec 9) : Statement (.cSdsp rs2 uimm) := ⟨(by decide : Ref.cSdsp.wf = true), rfl, rfl⟩

end Sys2Proof.Laws.Arity
end

