-- ==== Sys2Proof/Certificates/Slice0/Obligations.lean ====
section
/-! DEFINITION. The statements for the provers, and the vocabulary they are written in: results as exact integers narrowed to a
register, and what a meaning leaves unchanged. -/

namespace Sys2Proof.Claims

open Sys2Proof.Machine

/-! ## Values of registers as integers -/

/-- Number of bits of a register width. -/
def bits : Xlen → Nat
  | .w32 => 32
  | .w64 => 64

/-- The signed value of the low `xlen` bits. -/
def sval (x : Xlen) (v : Word) : Int :=
  match x with
  | .w32 => (v.setWidth 32).toInt
  | .w64 => v.toInt

/-- The unsigned value of the low `xlen` bits. -/
def uval (x : Xlen) (v : Word) : Nat :=
  match x with
  | .w32 => (v.setWidth 32).toNat
  | .w64 => v.toNat

/-- What a register holds for an integer result: the integer modulo 2^xlen, kept sign-extended under 32 (log 7). -/
def reg (x : Xlen) (i : Int) : Word :=
  match x with
  | .w32 => (BitVec.ofInt 32 i).signExtend 64
  | .w64 => BitVec.ofInt 64 i

/-- `sext_32` of an integer result, in a register. -/
def word (x : Xlen) (i : Int) : Word := reg x (BitVec.ofInt 32 i).toInt

/-- An address for an integer: modulo 2^xlen (log 8). -/
def addr (x : Xlen) (i : Int) : Word := BitVec.ofInt 64 (i % 2 ^ bits x)

/-- 1 for true, 0 for false. -/
def ofBool (b : Bool) : Int := if b then 1 else 0

/-- The register that a compressed number stands for. -/
def reg8 (r : BitVec 3) : BitVec 5 := BitVec.ofNat 5 (8 + r.toNat)

/-- The signed value of a register operand. -/
def S (s : State) (r : BitVec 5) : Int := sval s.cpu.xlen (readX s.cpu r)

/-- The unsigned value of a register operand. -/
def U (s : State) (r : BitVec 5) : Nat := uval s.cpu.xlen (readX s.cpu r)

/-- The signed value of the low 32 bits of a register operand. -/
def S32 (s : State) (r : BitVec 5) : Int := sval .w32 (readX s.cpu r)

/-- The unsigned value of the low 32 bits of a register operand. -/
def U32 (s : State) (r : BitVec 5) : Nat := uval .w32 (readX s.cpu r)

/-! ## Frames -/

/-- Every register reads as before but `rd`, which reads `v`; when `rd` is x0 nothing changes. -/
def Regs (s t : State) (rd : BitVec 5) (v : Word) : Prop :=
  ∀ r, readX t.cpu r = if r = rd ∧ rd ≠ 0#5 then v else readX s.cpu r

/-- Every register reads as before. -/
def SameRegs (s t : State) : Prop := ∀ r, readX t.cpu r = readX s.cpu r

/-- Every byte of memory reads as before. -/
def SameMem (s t : State) : Prop := ∀ a, byteAt t.cpu a = byteAt s.cpu a

/-- Every CSR word reads as before. -/
def SameCsr (s t : State) : Prop := ∀ n, csrGet t.cpu n = csrGet s.cpu n

/-- The block's own state that no meaning writes, the width, the page map and the alignment policy; the latches but `out`; the
pass is over. -/
structure SameBlock (s t : State) : Prop where
  xlen     : t.cpu.xlen = s.cpu.xlen
  unmapped : t.cpu.unmapped = s.cpu.unmapped
  align    : t.cpu.align = s.cpu.align
  tree32   : t.tree32 = s.tree32
  tree64   : t.tree64 = s.tree64
  bind     : t.bind = s.bind
  bp       : t.bp = s.bp
  budget   : t.budget = s.budget
  lat      : t.lat = { s.lat with out := t.lat.out }
  idle     : t.phase = .idle

/-- The address after an instruction of `n` bytes (R156). -/
def after (s : State) (n : Nat) : Word := s.lat.pc0 + BitVec.ofNat 64 n

/-- `exec` answers a next state, retired, with `rd` holding `v` and `pc` at `p`, and nothing else changed. -/
def Writes (i : Instr) (s : State) (rd : BitVec 5) (v p : Word) : Prop :=
  ∃ t, exec i s = .next t ∧ t.outcome = some .retired ∧ t.calls = s.calls ∧ Regs s t rd v ∧ t.cpu.pc = p ∧
    SameMem s t ∧ SameCsr s t ∧ t.cpu.priv = s.cpu.priv ∧ SameBlock s t

/-- `exec` answers a next state, retired, with `pc` at `p` and nothing else changed. -/
def OnlyPc (i : Instr) (s : State) (p : Word) : Prop :=
  ∃ t, exec i s = .next t ∧ t.outcome = some .retired ∧ t.calls = s.calls ∧ SameRegs s t ∧ t.cpu.pc = p ∧
    SameMem s t ∧ SameCsr s t ∧ t.cpu.priv = s.cpu.priv ∧ SameBlock s t

/-- `exec` answers a next state that took the trap: `pc` back at `pc0`, then delivered; the handler changed nothing. -/
def Traps (i : Instr) (s : State) (k : TrapKind) (v : Word) : Prop :=
  ∃ t, exec i s = .next t ∧ t.outcome = some (.trapped k v) ∧ t.calls = s.calls ++ [.deliver k v] ∧
    t.cpu = deliver k v { s.cpu with pc := s.lat.pc0 } ∧ SameBlock s t

/-! ## Memory -/

/-- The `i`-th address of a data access. -/
def nth (x : Xlen) (a : Word) (i : Nat) : Word := BitVec.ofNat 64 ((a.toNat + i) % 2 ^ bits x)

/-- Every page of the access is mapped. -/
def Mapped (s : State) (a : Word) (n : Nat) : Prop :=
  ∀ i < n, tagOf s.cpu.unmapped (pageOf (nth s.cpu.xlen a i)) = none

/-- The access raises nothing: its pages are mapped, and it is aligned where a misaligned one raises (log 9). -/
def Accessible (s : State) (a : Word) (n : Nat) : Prop :=
  Mapped s a n ∧ (s.cpu.align = .raises → a.toNat % n = 0)

/-- The unsigned value of `n` bytes from `a` upward, the lowest address least significant. -/
def leNat (s : State) (a : Word) : Nat → Nat
  | 0 => 0
  | n + 1 => leNat s a n + (byteAt s.cpu (nth s.cpu.xlen a n)).toNat * 256 ^ n

/-- The signed value of `n` bytes from `a` upward. -/
def leInt (s : State) (a : Word) (n : Nat) : Int := Int.bmod (leNat s a n) (256 ^ n)

/-- `exec` stores the low `n` bytes of `v` at `a` and changes nothing else but `pc`. -/
def Stores (i : Instr) (s : State) (a : Word) (n : Nat) (v p : Word) : Prop :=
  ∃ t, exec i s = .next t ∧ t.outcome = some .retired ∧ t.calls = s.calls ∧ SameRegs s t ∧ t.cpu.pc = p ∧
    (∀ j < n, byteAt t.cpu (nth s.cpu.xlen a j) = BitVec.ofNat 8 (v.toNat / 256 ^ j)) ∧
    (∀ b, (∀ j < n, b ≠ nth s.cpu.xlen a j) → byteAt t.cpu b = byteAt s.cpu b) ∧
    SameCsr s t ∧ t.cpu.priv = s.cpu.priv ∧ SameBlock s t

/-- The page of byte `j` is the first unmapped one of an access of `n` bytes at `a`, with tag `k`. -/
def FirstFault (s : State) (a : Word) (n j : Nat) (k : FetchTag) : Prop :=
  j < n ∧ tagOf s.cpu.unmapped (pageOf (nth s.cpu.xlen a j)) = some k ∧
    ∀ i < j, tagOf s.cpu.unmapped (pageOf (nth s.cpu.xlen a i)) = none

/-- The access raises, and why: it is misaligned where that raises, or, not so, it meets an unmapped page (logs 9, 10). -/
def Faults (s : State) (a : Word) (n : Nat) : DataTrap → Prop
  | .misaligned => s.cpu.align = .raises ∧ a.toNat % n ≠ 0
  | .unmapped k => (s.cpu.align = .raises → a.toNat % n = 0) ∧ ∃ j, FirstFault s a n j k

/-! ## Control and status registers -/

/-- The number of a privilege mode. -/
def level : Priv → Nat
  | .user => 0
  | .supervisor => 1
  | .machine => 3

/-- The mode may read, or write, the CSR (log 11). -/
def Permitted (s : State) (n : BitVec 12) (write : Bool) : Prop :=
  n.toNat / 256 % 4 ≤ level s.cpu.priv ∧ (write = true → n.toNat / 1024 ≠ 3)

/-- CSR[n] as an instruction sees it: `sstatus` is the visible part of `mstatus` (log 12). -/
def seen (s : State) (n : BitVec 12) : Word :=
  if n = 0x100#12 then csrGet s.cpu 0x300#12 &&& Config.sstatusMask else csrGet s.cpu n

/-- CSR word `m` after `v` modulo 2^xlen is written to CSR `n`: `sstatus` writes the visible part of `mstatus` (logs 11, 12). -/
def written (s : State) (n : BitVec 12) (v : Word) (m : BitVec 12) : Word :=
  let u := BitVec.ofNat 64 (uval s.cpu.xlen v)
  if n = 0x100#12 then
    if m = 0x300#12 then (csrGet s.cpu 0x300#12 &&& ~~~Config.sstatusMask) ||| (u &&& Config.sstatusMask)
    else csrGet s.cpu m
  else if m = n then u else csrGet s.cpu m

/-- `exec` reads a CSR into `rd` and, when it writes, leaves `v` there. -/
def CsrMoves (i : Instr) (s : State) (rd : BitVec 5) (n : BitVec 12) (write : Bool) (v : Word) : Prop :=
  ∃ t, exec i s = .next t ∧ t.outcome = some .retired ∧ t.calls = s.calls ∧
    Regs s t rd (reg s.cpu.xlen (seen s n).toInt) ∧ t.cpu.pc = after s 4 ∧
    (∀ m, csrGet t.cpu m = if write = true then written s n v m else csrGet s.cpu m) ∧
    SameMem s t ∧ t.cpu.priv = s.cpu.priv ∧ SameBlock s t

/-! ## Passes -/

/-- A pass can start: between passes, `pc` even, no breakpoint there. -/
def Starts (s : State) : Prop := s.phase = .idle ∧ isOdd s.cpu.pc = false ∧ breakpointAt s.bp s.cpu.pc = false

/-- A pass, or a stage of one, ends in a trap: `Deliver` is called on CPU state `u`, after the calls `l`. When it returns, the
block is ready for the next pass; when it never returns the pass is stuck, and when it issues a host command it is refused (U6). -/
def Delivers (c : Collaborators) (o : Result) (k : TrapKind) (v : Word) (u : Cpu) (l : List Call) : Prop :=
  match c.deliver k v u with
  | .returns w =>
    ∃ t, o = .next t ∧ t.cpu = w ∧ t.outcome = some (.trapped k v) ∧ t.phase = .idle ∧ t.calls = l ++ [.deliver k v]
  | .hangs => o = .fault .stuck
  | .commands => o = .refused .commandInPass

/-- How often a pass called a collaborator. -/
def count (p : Call → Bool) (t : State) : Nat := t.calls.countP p

/-- The calls of the first, or only, half-word; and of both, in one page or in two. -/
def FetchCalls (p : Word) (l : List Call) : Prop :=
  l = [.translate p, .readHalf p] ∨ l = [.translate p, .readHalf p, .readHalf (p + 2)] ∨
    l = [.translate p, .readHalf p, .translate (p + 2), .readHalf (p + 2)]

/-- The state in which the loop calls the meaning of the 4-byte or 2-byte instruction that it fetched: latches filled, the
fetch and the handler call recorded. -/
def atExecute (s : State) (d : Declaration) (lo hi : Half) (w : Opcode) (n : Nat) (l : List Call) : State :=
  { s with
    phase := .execute
    outcome := none
    lat := { s.lat with
      pc0 := s.cpu.pc
      xlen0 := s.cpu.xlen
      lo16 := lo
      hi16 := hi
      ilen := n
      opcode := w
      res := .decl d
      args := argsFor (refBinding d.mnemonic) d w s.cpu.pc }
    calls := l ++ [.handler d.mnemonic (argsFor (refBinding d.mnemonic) d w s.cpu.pc)] }

end Sys2Proof.Claims

open Sys2Proof Sys2Proof.Machine Sys2Proof.Claims

/-! ## Declarations and decoding -/

/-- R86: the declaration with the most fixed bits wins; with no match the word is illegal. -/
def Obligations.MostFixedBitsWins : Prop :=
  ∀ (ds : List Declaration) (w : Opcode), ¬ Ambiguous ds →
    (matchSet ds w = [] → decideSpec ds w = .illegal) ∧
      (∀ d ∈ matchSet ds w, (∀ e ∈ matchSet ds w, e.fixedBits ≤ d.fixedBits) → decideSpec ds w = resultOf d) ∧
      (matchSet ds w ≠ [] → ∃ d ∈ matchSet ds w, ∀ e ∈ matchSet ds w, e ≠ d → e.fixedBits < d.fixedBits)

/-- R103: a built tree decides every word as `decideSpec` does, whatever the largest bit group of a node (R112). -/
def Obligations.BuiltTreeDecidesAsSpecified : Prop :=
  ∀ (cap : Nat) (ds : List Declaration) (t : Tree), 0 < cap → buildWith cap ds = .ok t →
    ∀ w : Opcode, decideTree t w = decideSpec ds w

/-- R102: BUILD fails in exactly three cases: a malformed declaration, a malformed set, an ambiguous set; and STARTUP is fatal for
one of these reasons exactly when DECLS has a malformed declaration, violates R84, within one width or across the two (D13), or
is ambiguous under one width; then the phase is FATAL and no pass runs. That STARTUP reports one of these reasons, and neither a
missing handler nor non-conformance, where there are several defects is the model's choice (log 25; R170 and U4 leave it open). -/
def Obligations.BuildFailsInExactlyThreeCases : Prop :=
  (∀ ds : List Declaration,
    (∃ e, build ds = .error e) ↔ ((∃ d ∈ ds, d.wf = false) ∨ variantSetWf ds = false ∨ Ambiguous ds)) ∧
    ∀ (xr : Config.XlenReset) (ds : List Declaration) (hs : List Binding) (s : State) (c : Collaborators),
      s.phase = .unbuilt →
      let bad := (∃ d ∈ ds, d.wf = false) ∨
        (∃ d ∈ ds, ∃ e ∈ ds, d.mnemonic = e.mnemonic ∧ (d.pcclass ≠ e.pcclass ∨ d.kind ≠ e.kind)) ∨
        ∃ x, distinctMnemonics (variantDecls x ds) = false ∨ Ambiguous (variantDecls x ds)
      (bad ↔ ∃ e, startup xr ds hs s = .fault e ∧ (∀ m, e ≠ .missingHandler m) ∧ e ≠ .nonConforming) ∧
        (bad → (afterStartup xr ds hs s).phase = .fatal ∧ pass c (afterStartup xr ds hs s) = .refused .notIdle)

/-- The reference trees decide as the reference set says, for both widths. -/
def Obligations.ReferenceTreesDecideAsSpecified : Prop :=
  ∀ w : Opcode, decideTree refTree32 w = decideSpec (variantDecls .w32 refDecls) w ∧
    decideTree refTree64 w = decideSpec (variantDecls .w64 refDecls) w

/-- R131: each segment's opcode bits are at its destination bits of the packed value, and the value is in its field's range. -/
def Obligations.ExtractGathersTheSegments : Prop :=
  ∀ (d : Declaration) (f : ArgField) (w : Opcode), d.wf = true → f ∈ d.fields →
    (∀ g ∈ f.segs, ∀ k ≤ g.srcHi - g.srcLo, (extract f w).getLsbD (g.dstLo + k) = w.getLsbD (g.srcLo + k)) ∧
      (∀ k < f.nbits, f.dstMask.getLsbD k = false → (extract f w).getLsbD k = false) ∧
      (f.signed = false → (extract f w).toNat < 2 ^ f.nbits) ∧
      (f.signed = true → -(2 ^ (f.nbits - 1) : Int) ≤ (extract f w).toInt ∧ (extract f w).toInt < 2 ^ (f.nbits - 1))

/-- R134: `encode` of in-range values is a word that matches and from which `apply` recovers the values; values out of range, or of
the wrong number, are refused (U18). -/
def Obligations.ApplyRecoversEncodedValues : Prop :=
  ∀ (d : Declaration) (vs : List Word), d.wf = true →
    (valuesInRange d vs = true → ∃ w, encodeChecked d vs = some w ∧ d.isMatch w = true ∧ apply d w = vs) ∧
      (vs.length ≠ d.fields.length → encodeChecked d vs = none) ∧
      ∀ (k : Nat) (f : ArgField) (v : Word), d.fields[k]? = some f → vs[k]? = some v →
        ((f.signed = false ∧ 2 ^ f.nbits ≤ v.toNat) ∨
          (f.signed = true ∧ (v.toInt < -(2 ^ (f.nbits - 1) : Int) ∨ (2 ^ (f.nbits - 1) : Int) ≤ v.toInt)) ∨
          ∃ i < f.nbits, f.dstMask.getLsbD i = false ∧ v.getLsbD i = true) →
        encodeChecked d vs = none

/-- Decode and encode agree on every well-formed instruction under both widths, word and bytes; its operands are in range. -/
def Obligations.DecodeRecoversEveryWellFormedInstruction : Prop :=
  ∀ (x : Xlen) (i : Instr) (rest : List Byte), i.wf x = true →
    encodeInstr i = some (encode i) ∧ decodeWord x (encode i) = some i ∧ decode x (encodeBytes i ++ rest) = .ok (i, rest)

/-- Words written out from the encodings of the spec, one or more of each family; the last two are the bytes `85 20` under the two
widths. -/
def Obligations.WrittenOutWordsDecode : Prop :=
  decodeWord .w64 0xFFFFE0B7#32 = some (.lui 1 0xFFFFE000#32) ∧
    decodeWord .w64 0xFFE10093#32 = some (.addi 1 2 0xFFE#12) ∧
    decodeWord .w64 0xFE310EE3#32 = some (.beq 2 3 0x1FFC#13) ∧
    decodeWord .w64 0xFFDFF0EF#32 = some (.jal 1 0x1FFFFC#21) ∧
    decodeWord .w32 0xFE312F23#32 = some (.sw 2 3 0xFFE#12) ∧
    decodeWord .w64 0x02111093#32 = some (.slli64 1 2 33#6) ∧
    decodeWord .w32 0x02111093#32 = none ∧
    decodeWord .w64 0x00000073#32 = some .ecall ∧
    decodeWord .w64 0x300110F3#32 = some (.csrrw 1 2 0x300#12) ∧
    decodeWord .w64 0x023140BB#32 = some (.divw 1 2 3) ∧
    decodeWord .w64 0x6D04#32 = some (.cLd 1 2 24#8) ∧
    decodeWord .w64 0x9002#32 = some .cEbreak ∧
    decodeWord .w64 0#32 = some .illegalCAddi4spnZ ∧
    decodeWord .w64 0x04510133#32 = none ∧
    decode .w32 [0x85#8, 0x20#8] = .ok (.cJal 96#12, []) ∧
    decode .w64 [0x85#8, 0x20#8] = .ok (.cAddiw 1 1, [])

/-! ## The dispatch loop, for any collaborators -/

/-- R163: a pass is the composition of the transitions of the state machine, six at most. -/
def Obligations.PassIsTheTransitionTable : Prop :=
  ∀ (c : Collaborators) (s : State), s.phase = .idle → pass c s = transitions c 6 s

/-- R33: a pass with an odd `pc` is refused; and no pass starts outside IDLE. -/
def Obligations.OddPcIsRefused : Prop :=
  ∀ (c : Collaborators) (s : State),
    (s.phase = .idle → isOdd s.cpu.pc = true → pass c s = .refused .oddPc) ∧
      (s.phase ≠ .idle → pass c s = .refused .notIdle)

/-- R142: a breakpoint at `pc` ends the pass before any call and any change of the CPU state. -/
def Obligations.BreakpointStopsBeforeAnySideEffect : Prop :=
  ∀ (c : Collaborators) (s : State), s.phase = .idle → isOdd s.cpu.pc = false →
    breakpointAt s.bp s.cpu.pc = true →
    ∃ t, pass c s = .next t ∧ t.outcome = some (.breakpointHit s.cpu.pc) ∧ t.cpu = s.cpu ∧ t.calls = [] ∧
      t.phase = .idle ∧ t.tree32 = s.tree32 ∧ t.tree64 = s.tree64 ∧ t.bind = s.bind ∧ t.bp = s.bp ∧ t.budget = s.budget

/-- R147: a failed translation of either half traps at `pc` with the address whose translation failed; the CPU state is untouched
when the trap is delivered, and a successful first read leaves no trace. -/
def Obligations.FetchFaultAtEitherHalfTrapsAtPc : Prop :=
  ∀ (c : Collaborators) (s : State) (k : FetchTag), Starts s →
    (c.translate s.cpu s.cpu.pc = .error k →
      Delivers c (pass c s) (.instructionFetchFault k) s.cpu.pc s.cpu [.translate s.cpu.pc]) ∧
      (∀ e, c.translate s.cpu s.cpu.pc = .ok e → isLong (c.readHalf s.cpu e s.cpu.pc) = true →
        s.cpu.pc.toNat % c.pageSize = c.pageSize - 2 → c.translate s.cpu (s.cpu.pc + 2) = .error k →
        Delivers c (pass c s) (.instructionFetchFault k) (s.cpu.pc + 2) s.cpu
          [.translate s.cpu.pc, .readHalf s.cpu.pc, .translate (s.cpu.pc + 2)])

/-- R144 to R146: FETCH from `pc` reads one half-word of a 2-byte instruction, two of a 4-byte one, the second through a
second translation exactly when it lies in the next page; the first half-word is the low half of the opcode. -/
def Obligations.FetchAssemblesTheOpcode : Prop :=
  ∀ (c : Collaborators) (s : State) (e : Nat), c.translate s.cpu s.lat.pc0 = .ok e →
    let p := s.lat.pc0
    let lo := c.readHalf s.cpu e p
    let fetches := fun (w n : Nat) (l : List Call) =>
      ∃ t, fetchStage c s = .next t ∧ t.lat.opcode.toNat = w ∧ t.lat.ilen = n ∧ t.phase = .decode ∧ t.cpu = s.cpu ∧
        t.calls = s.calls ++ l
    (lo.toNat % 4 ≠ 3 → fetches lo.toNat 2 [.translate p, .readHalf p]) ∧
      (lo.toNat % 4 = 3 → p.toNat % c.pageSize ≠ c.pageSize - 2 →
        fetches ((c.readHalf s.cpu e (p + 2)).toNat * 65536 + lo.toNat) 4 [.translate p, .readHalf p, .readHalf (p + 2)]) ∧
      (lo.toNat % 4 = 3 → p.toNat % c.pageSize = c.pageSize - 2 → ∀ e2, c.translate s.cpu (p + 2) = .ok e2 →
        fetches ((c.readHalf s.cpu e2 (p + 2)).toNat * 65536 + lo.toNat) 4
          [.translate p, .readHalf p, .translate (p + 2), .readHalf (p + 2)])

/-- R148: in every pass whose FETCH completes, the tree of the width that `xlen` holds at the start of the pass decides the opcode
that FETCH made, whether the result is a declaration, a no-op or illegal; an illegal one is delivered, a no-op answers. -/
def Obligations.WidthAtPassStartSelectsTheTree : Prop :=
  ∀ (c : Collaborators) (s s1 s2 : State), Starts s → startStage s = .next s1 → fetchStage c s1 = .next s2 →
    s2.phase = .decode →
    let w := s2.lat.opcode
    let r := decideTree (if s.cpu.xlen = .w32 then s.tree32 else s.tree64) w
    (∀ t, pass c s = .next t → t.lat.xlen0 = s.cpu.xlen ∧ t.lat.opcode = w ∧ t.lat.res = r) ∧
      (∀ t, beforeExecute c s = .next t → t.phase = .execute → t.lat.opcode = w ∧ t.lat.res = r ∧ t.cpu = s.cpu) ∧
      (r = .illegal → Delivers c (pass c s) .illegalInstruction (w.setWidth 64) s.cpu s2.calls) ∧
      ((∃ d, r = .nop d) → ∃ t, pass c s = .next t ∧ t.outcome = some .retired)

/-- R149: an illegal result traps with the opcode at `pc0`; no handler is called and the CPU state is untouched before. -/
def Obligations.IllegalOpcodeTrapsWithTheOpcode : Prop :=
  ∀ (c : Collaborators) (s : State), decideTree (treeOf s s.lat.xlen0) s.lat.opcode = .illegal →
    Delivers c (decodeStage c s) .illegalInstruction (s.lat.opcode.setWidth 64) { s.cpu with pc := s.lat.pc0 } s.calls

/-- R150: a no-op leaf advances `pc` by its width and does nothing else. -/
def Obligations.NopLeafOnlyAdvances : Prop :=
  ∀ (c : Collaborators) (s : State) (d : Declaration),
    decideTree (treeOf s s.lat.xlen0) s.lat.opcode = .nop d →
    ∃ t, decodeStage c s = .next t ∧ t.cpu = { s.cpu with pc := s.lat.pc0 + BitVec.ofNat 64 d.width } ∧
      t.outcome = some .retired ∧ t.phase = .idle ∧ t.calls = s.calls

/-- R152: the handler gets the operands, then the width, then `pc0`, as its two flags ask. -/
def Obligations.AppendedParametersFollowTheFlags : Prop :=
  ∀ (s : State) (d : Declaration) (b : Binding), s.lat.res = .decl d → bindOf s.bind d.mnemonic = some b →
    ∃ t, extractStage s = .next t ∧ t.phase = .execute ∧ t.cpu = s.cpu ∧
      t.lat.args.take d.fields.length = apply d s.lat.opcode ∧
      t.lat.args.drop d.fields.length =
        (if b.needsWidth = true ∧ b.needsPc = true then [BitVec.ofNat 64 d.width, s.lat.pc0]
          else if b.needsWidth = true then [BitVec.ofNat 64 d.width]
          else if b.needsPc = true then [s.lat.pc0] else [])

/-- R155 and R160: whatever a raising handler did, `pc` is back at `pc0` when its kind and value are delivered. -/
def Obligations.RaisingHandlerIsRolledBackThenDelivered : Prop :=
  ∀ (c : Collaborators) (s : State) (d : Declaration) (b : Binding) (k : TrapKind) (v : Word) (u : Cpu),
    s.phase = .execute → s.lat.res = .decl d → bindOf s.bind d.mnemonic = some b →
    c.handler b.handler s.lat.args s.cpu = .returns (.raise k v u) →
    Delivers c (fromExecute c (.next s)) k v { u with pc := s.lat.pc0 } (s.calls ++ [.handler b.handler s.lat.args])

/-- R156: the default advance of a SEQ instruction, from the latched `pc0`; a stray write to `pc` is lost. -/
def Obligations.SequentialInstructionAdvances : Prop :=
  ∀ (c : Collaborators) (s : State) (d : Declaration) (b : Binding) (taken : Bool) (u : Cpu),
    s.phase = .execute → s.lat.res = .decl d → bindOf s.bind d.mnemonic = some b → d.pcclass = .seq →
    c.handler b.handler s.lat.args s.cpu = .returns (.done taken u) →
    ∃ t, fromExecute c (.next s) = .next t ∧ t.cpu = { u with pc := s.lat.pc0 + BitVec.ofNat 64 d.width } ∧
      t.outcome = some .retired ∧ t.phase = .idle

/-- R157: a taken branch keeps the `pc` that its handler wrote; one not taken advances. -/
def Obligations.TakenBranchKeepsItsTarget : Prop :=
  ∀ (c : Collaborators) (s : State) (d : Declaration) (b : Binding) (taken : Bool) (u : Cpu),
    s.phase = .execute → s.lat.res = .decl d → bindOf s.bind d.mnemonic = some b → d.pcclass = .branch →
    c.handler b.handler s.lat.args s.cpu = .returns (.done taken u) →
    ∃ t, fromExecute c (.next s) = .next t ∧
      t.cpu = (if taken = true then u else { u with pc := s.lat.pc0 + BitVec.ofNat 64 d.width }) ∧
      t.outcome = some .retired ∧ t.phase = .idle

/-- R158, and the same for R159: after a jump and after a trap-boundary instruction the loop does not write `pc`. -/
def Obligations.JumpAndTrapBoundaryKeepTheHandlersPc : Prop :=
  ∀ (c : Collaborators) (s : State) (d : Declaration) (b : Binding) (taken : Bool) (u : Cpu),
    s.phase = .execute → s.lat.res = .decl d → bindOf s.bind d.mnemonic = some b →
    (d.pcclass = .jump ∨ d.pcclass = .trapBoundary) → c.handler b.handler s.lat.args s.cpu = .returns (.done taken u) →
    ∃ t, fromExecute c (.next s) = .next t ∧ t.cpu = u ∧ t.outcome = some .retired ∧ t.phase = .idle

/-- R161: every pass that ends, ends in IDLE with an outcome, and with the trees, the binding, the breakpoints and the budget as they
were, so that nothing remembers a trap; a trap does not end RUN. No pass ends in a fatal failure. R238 (a) and U6: one whose
handler never returns is stuck, one whose handler issues a host command is refused, and none is stuck when all handlers and
`Deliver` return (the form of these two ends is log 33). -/
def Obligations.PassEndsReadyForTheNext : Prop :=
  ∀ (c : Collaborators) (s : State),
    (∀ r, pass c s = .fault r → r = .stuck) ∧
      ((∀ h a u, c.handler h a u ≠ .hangs) → (∀ k v u, c.deliver k v u ≠ .hangs) → ∀ r, pass c s ≠ .fault r) ∧
      (∀ d b, s.phase = .execute → s.lat.res = .decl d → bindOf s.bind d.mnemonic = some b →
        (c.handler b.handler s.lat.args s.cpu = .hangs → fromExecute c (.next s) = .fault .stuck) ∧
          (c.handler b.handler s.lat.args s.cpu = .commands → fromExecute c (.next s) = .refused .commandInPass)) ∧
      (∀ t, pass c s = .next t → t.phase = .idle ∧ t.outcome ≠ none ∧ t.tree32 = s.tree32 ∧ t.tree64 = s.tree64 ∧
        t.bind = s.bind ∧ t.bp = s.bp ∧ t.budget = s.budget) ∧
      ∀ n t k v, pass c { s with budget := n + 1 } = .next t → t.outcome = some (.trapped k v) →
        runWith (pass c) (n + 1) s = runWith (pass c) n t

/-- R40 and R240: the calls of a pass, in order: the fetch, then at most one handler, then at most one delivery. -/
def Obligations.CallsOfAPassComeInOrder : Prop :=
  ∀ (c : Collaborators) (s t : State), pass c s = .next t →
    t.calls = [] ∨ (∃ k, t.calls = [.translate s.cpu.pc, .deliver k s.cpu.pc]) ∨
      (∃ k, t.calls = [.translate s.cpu.pc, .readHalf s.cpu.pc, .translate (s.cpu.pc + 2), .deliver k (s.cpu.pc + 2)]) ∨
      ∃ f, FetchCalls s.cpu.pc f ∧
        (t.calls = f ∨ (∃ k v, t.calls = f ++ [.deliver k v]) ∨ (∃ h a, t.calls = f ++ [.handler h a]) ∨
          ∃ h a k v, t.calls = f ++ [.handler h a, .deliver k v])

/-! ## Startup and host operations -/

/-- R24, R170: what a successful STARTUP leaves, for any declarations and handlers; one PC class and one kind for each mnemonic of
DECLS, across the two widths (R60, R84, R239 (d)). -/
def Obligations.StartupLeavesAReadyBlock : Prop :=
  ∀ (xr : Config.XlenReset) (ds : List Declaration) (hs : List Binding) (s t : State), startup xr ds hs s = .next t →
    s.phase = .unbuilt ∧ t.phase = .idle ∧ t.bp = none ∧ t.budget = 0 ∧
      t.cpu = { s.cpu with xlen := match xr with | .to x => x | .keep => .w64 } ∧
      build (variantDecls .w32 ds) = .ok t.tree32 ∧ build (variantDecls .w64 ds) = .ok t.tree64 ∧
      (∀ d ∈ ds, ∀ e ∈ ds, d.mnemonic = e.mnemonic → d.pcclass = e.pcclass ∧ d.kind = e.kind) ∧
      (∀ d ∈ ds, d.kind = .regular → ∃ b ∈ t.bind, b.mnemonic = d.mnemonic) ∧
      (∀ b ∈ t.bind, b ∈ hs ∧ ∃ d ∈ ds, d.mnemonic = b.mnemonic) ∧
      decideTree t.tree32 0#32 = .illegal ∧ decideTree t.tree64 0#32 = .illegal ∧
      (∃ d, decideTree t.tree32 0x00000073#32 = .decl d ∧ d.mnemonic = .ecall ∧ d.pcclass = .trapBoundary) ∧
      ∃ d, decideTree t.tree64 0x00000073#32 = .decl d ∧ d.mnemonic = .ecall ∧ d.pcclass = .trapBoundary

/-- R170: a REGULAR declaration without a handler makes STARTUP fatal; so does a set that BUILD rejects, or that gives one mnemonic
two PC classes or two kinds under the two widths (R84, D13). -/
def Obligations.MissingHandlerIsFatalAtStartup : Prop :=
  ∀ (xr : Config.XlenReset) (ds : List Declaration) (hs : List Binding) (s : State), s.phase = .unbuilt →
    ((∃ d ∈ ds, d.kind = .regular ∧ ∀ b ∈ hs, b.mnemonic ≠ d.mnemonic) ∨
        (∃ x e, build (variantDecls x ds) = .error e) ∨
        (∃ d ∈ ds, ∃ e ∈ ds, d.mnemonic = e.mnemonic ∧ (d.pcclass ≠ e.pcclass ∨ d.kind ≠ e.kind))) →
    (∃ r, startup xr ds hs s = .fault r) ∧ (afterStartup xr ds hs s).phase = .fatal

/-- R177: outside IDLE every command but STARTUP is refused, and outside UNBUILT so is STARTUP; such a command changes nothing; so
FATAL is for good. R238 (a): after a RUN that hangs no command is accepted; the phase it hangs in is the model's choice (log 33). -/
def Obligations.CommandsAreAcceptedOnlyInTheirPhase : Prop :=
  ∀ (xr : Config.XlenReset) (onePass : State → Result) (k : Command) (s : State),
    ((∀ ds hs, k ≠ .startup ds hs) → s.phase ≠ .idle →
      command xr onePass k s = .refused .notIdle ∧ afterCommand xr onePass k s = s) ∧
      ((∃ ds hs, k = .startup ds hs) → s.phase ≠ .unbuilt →
        command xr onePass k s = .refused .notUnbuilt ∧ afterCommand xr onePass k s = s) ∧
      (s.phase = .fatal → (afterCommand xr onePass k s).phase = .fatal) ∧
      (∀ n, command xr onePass (.run n) s = .fault .stuck →
        (afterCommand xr onePass (.run n) s).phase ≠ .idle ∧ (afterCommand xr onePass (.run n) s).phase ≠ .unbuilt)

/-- R171, R172, R174, R175, R176: RESET writes `pc`, `xlen` unless XLEN_RESET is KEEP, and the budget; SET_XLEN writes `xlen`
and refuses another width; INVALIDATE and SET_BREAKPOINTS change no CPU state; FEATURES answers ISA_FEATURES and changes nothing;
an empty breakpoint set behaves as None. Nothing else changes. -/
def Obligations.HostCommandsChangeOnlyTheirElement : Prop :=
  ∀ (onePass : State → Result) (s : State), s.phase = .idle →
    (∀ xr e, command xr onePass (.reset e) s = .next ({ s with
        cpu := { s.cpu with pc := e, xlen := match xr with | .to x => x | .keep => s.cpu.xlen }
        budget := 0 }, .done)) ∧
      (∀ xr, command xr onePass (.setXlen 32) s = .next ({ s with cpu := { s.cpu with xlen := .w32 } }, .done) ∧
        command xr onePass (.setXlen 64) s = .next ({ s with cpu := { s.cpu with xlen := .w64 } }, .done)) ∧
      (∀ xr w, w ≠ 32 → w ≠ 64 → command xr onePass (.setXlen w) s = .refused (.badWidth w)) ∧
      (∀ xr, ∃ t, command xr onePass .invalidate s = .next (t, .done) ∧ t.cpu = s.cpu ∧ { t with calls := s.calls } = s) ∧
      (∀ xr b, command xr onePass (.setBreakpoints b) s = .next ({ s with bp := b }, .done)) ∧
      (∀ xr, command xr onePass .features s = .next (s, .isaFeatures Config.isaFeatures)) ∧
      features s = .ok Config.isaFeatures ∧
      (∀ a, breakpointAt (some []) a = breakpointAt none a)

/-- R173: RUN(a) then RUN(b), with no breakpoint hit between, is RUN(a + b); a pass that hits a breakpoint ends RUN with the rest of
the budget discarded; a pass that ends in a trap counts as one step and RUN goes on; RUN(0) completes at once. R238 (a): a pass that
is stuck hangs RUN; a refused pass makes RUN refuse. -/
def Obligations.RunCountsPassesAndStopsAtABreakpoint : Prop :=
  ∀ (c : Collaborators) (s : State), s.phase = .idle →
    (∀ a b t, runWith (pass c) a s = .next (t, .completed) → runWith (pass c) b t = runWith (pass c) (a + b) s) ∧
      runWith (pass c) 0 s = .next ({ s with budget := 0 }, .completed) ∧
      (∀ n r, pass c { s with budget := n + 1 } = .fault r → runWith (pass c) (n + 1) s = .fault r) ∧
      (∀ n r, pass c { s with budget := n + 1 } = .refused r → runWith (pass c) (n + 1) s = .refused r) ∧
      ∀ n t, pass c { s with budget := n + 1 } = .next t →
        (∀ a, t.outcome = some (.breakpointHit a) →
          runWith (pass c) (n + 1) s = .next ({ t with budget := 0 }, .stopped a)) ∧
        ((t.outcome = some .retired ∨ ∃ k v, t.outcome = some (.trapped k v)) →
          runWith (pass c) (n + 1) s = runWith (pass c) n t)

/-- R24: the state after STARTUP with the reference set and RESET is `State.reset`; the entry address and the CPU state outside
the block are the model's choice (logs 2, 4, 19). -/
def Obligations.ResetStateIsStartupThenReset : Prop :=
  ∃ t, startup Config.xlenReset refDecls (refMnemonics.map refBinding) (unbuilt { Cpu.reset with pc := 0 }) = .next t ∧
    hostReset Config.xlenReset 0x1000#64 t = .next State.reset ∧ State.reset.cpu.pc = 0x1000#64 ∧
    State.reset.cpu.xlen = .w64 ∧ State.reset.bp = none ∧ State.reset.phase = .idle ∧ State.reset.budget = 0

/-! ## The reference machine: results of instructions (the conventional meanings, log 1) -/

/-- LUI, AUIPC, ADDI, ADD, SUB, C.LUI, C.LI, C.MV and the 2-byte sums: the exact value, sum or difference, narrowed to the
width. -/
def Obligations.MoveSumAndDifferenceResults : Prop :=
  ∀ (s : State) (rd rs1 rs2 : BitVec 5) (p q : BitVec 3),
    (∀ imm, Writes (.lui rd imm) s rd (reg s.cpu.xlen imm.toInt) (after s 4)) ∧
      (∀ imm, Writes (.auipc rd imm) s rd (reg s.cpu.xlen (s.lat.pc0.toInt + imm.toInt)) (after s 4)) ∧
      (∀ imm, Writes (.cLui rd imm) s rd (reg s.cpu.xlen imm.toInt) (after s 2)) ∧
      (∀ imm, Writes (.cLi rd imm) s rd (reg s.cpu.xlen imm.toInt) (after s 2)) ∧
      Writes (.cMv rd rs2) s rd (reg s.cpu.xlen (S s rs2)) (after s 2) ∧
      (∀ imm, Writes (.addi rd rs1 imm) s rd (reg s.cpu.xlen (S s rs1 + imm.toInt)) (after s 4)) ∧
      Writes (.add rd rs1 rs2) s rd (reg s.cpu.xlen (S s rs1 + S s rs2)) (after s 4) ∧
      Writes (.sub rd rs1 rs2) s rd (reg s.cpu.xlen (S s rs1 - S s rs2)) (after s 4) ∧
      (∀ imm, Writes (.cAddi rd imm) s rd (reg s.cpu.xlen (S s rd + imm.toInt)) (after s 2)) ∧
      (∀ imm, Writes (.cAddi16sp imm) s 2 (reg s.cpu.xlen (S s 2 + imm.toInt)) (after s 2)) ∧
      (∀ imm, Writes (.cAddi4spn p imm) s (reg8 p) (reg s.cpu.xlen (S s 2 + imm.toNat)) (after s 2)) ∧
      Writes (.cAdd rd rs2) s rd (reg s.cpu.xlen (S s rd + S s rs2)) (after s 2) ∧
      Writes (.cSub p q) s (reg8 p) (reg s.cpu.xlen (S s (reg8 p) - S s (reg8 q))) (after s 2)

/-- XORI, ORI, ANDI, XOR, OR, AND and their 2-byte forms. -/
def Obligations.BitwiseResults : Prop :=
  ∀ (s : State) (rd rs1 rs2 : BitVec 5) (p q : BitVec 3),
    let x := s.cpu.xlen
    let r := readX s.cpu
    (∀ imm, Writes (.xori rd rs1 imm) s rd (reg x (r rs1 ^^^ imm.signExtend 64).toInt) (after s 4)) ∧
      (∀ imm, Writes (.ori rd rs1 imm) s rd (reg x (r rs1 ||| imm.signExtend 64).toInt) (after s 4)) ∧
      (∀ imm, Writes (.andi rd rs1 imm) s rd (reg x (r rs1 &&& imm.signExtend 64).toInt) (after s 4)) ∧
      Writes (.xor rd rs1 rs2) s rd (reg x (r rs1 ^^^ r rs2).toInt) (after s 4) ∧
      Writes (.or rd rs1 rs2) s rd (reg x (r rs1 ||| r rs2).toInt) (after s 4) ∧
      Writes (.and rd rs1 rs2) s rd (reg x (r rs1 &&& r rs2).toInt) (after s 4) ∧
      (∀ imm, Writes (.cAndi p imm) s (reg8 p) (reg x (r (reg8 p) &&& imm.signExtend 64).toInt) (after s 2)) ∧
      Writes (.cXor p q) s (reg8 p) (reg x (r (reg8 p) ^^^ r (reg8 q)).toInt) (after s 2) ∧
      Writes (.cOr p q) s (reg8 p) (reg x (r (reg8 p) ||| r (reg8 q)).toInt) (after s 2) ∧
      Writes (.cAnd p q) s (reg8 p) (reg x (r (reg8 p) &&& r (reg8 q)).toInt) (after s 2)

/-- SLTI, SLTIU, SLT and SLTU. -/
def Obligations.SetLessThanResults : Prop :=
  ∀ (s : State) (rd rs1 rs2 : BitVec 5),
    (∀ imm, Writes (.slti rd rs1 imm) s rd (reg s.cpu.xlen (ofBool (decide (S s rs1 < imm.toInt)))) (after s 4)) ∧
      (∀ imm, Writes (.sltiu rd rs1 imm) s rd
        (reg s.cpu.xlen (ofBool (decide ((U s rs1 : Int) < imm.toInt % 2 ^ bits s.cpu.xlen)))) (after s 4)) ∧
      Writes (.slt rd rs1 rs2) s rd (reg s.cpu.xlen (ofBool (decide (S s rs1 < S s rs2)))) (after s 4) ∧
      Writes (.sltu rd rs1 rs2) s rd (reg s.cpu.xlen (ofBool (decide (U s rs1 < U s rs2)))) (after s 4)

/-- The shifts, by an immediate and by a register modulo the width, and their 2-byte forms: products and floor quotients with
a power of two. -/
def Obligations.ShiftResults : Prop :=
  ∀ (s : State) (rd rs1 rs2 : BitVec 5) (p : BitVec 3),
    let x := s.cpu.xlen
    let k := U s rs2 % bits x
    (∀ n, Writes (.slli32 rd rs1 n) s rd (reg x (U s rs1 * 2 ^ n.toNat)) (after s 4)) ∧
      (∀ n, Writes (.slli64 rd rs1 n) s rd (reg x (U s rs1 * 2 ^ n.toNat)) (after s 4)) ∧
      (∀ n, Writes (.srli32 rd rs1 n) s rd (reg x (U s rs1 / 2 ^ n.toNat)) (after s 4)) ∧
      (∀ n, Writes (.srli64 rd rs1 n) s rd (reg x (U s rs1 / 2 ^ n.toNat)) (after s 4)) ∧
      (∀ n, Writes (.srai32 rd rs1 n) s rd (reg x (S s rs1 / 2 ^ n.toNat)) (after s 4)) ∧
      (∀ n, Writes (.srai64 rd rs1 n) s rd (reg x (S s rs1 / 2 ^ n.toNat)) (after s 4)) ∧
      Writes (.sll rd rs1 rs2) s rd (reg x (U s rs1 * 2 ^ k)) (after s 4) ∧
      Writes (.srl rd rs1 rs2) s rd (reg x (U s rs1 / 2 ^ k)) (after s 4) ∧
      Writes (.sra rd rs1 rs2) s rd (reg x (S s rs1 / 2 ^ k)) (after s 4) ∧
      (∀ n, Writes (.cSlli32 rd n) s rd (reg x (U s rd * 2 ^ n.toNat)) (after s 2)) ∧
      (∀ n, Writes (.cSlli64 rd n) s rd (reg x (U s rd * 2 ^ n.toNat)) (after s 2)) ∧
      (∀ n, Writes (.cSrli32 p n) s (reg8 p) (reg x (U s (reg8 p) / 2 ^ n.toNat)) (after s 2)) ∧
      (∀ n, Writes (.cSrli64 p n) s (reg8 p) (reg x (U s (reg8 p) / 2 ^ n.toNat)) (after s 2)) ∧
      (∀ n, Writes (.cSrai32 p n) s (reg8 p) (reg x (S s (reg8 p) / 2 ^ n.toNat)) (after s 2)) ∧
      (∀ n, Writes (.cSrai64 p n) s (reg8 p) (reg x (S s (reg8 p) / 2 ^ n.toNat)) (after s 2))

/-- The W forms of sums, differences and shifts: the 32-bit result, sign-extended. -/
def Obligations.WordOperationResults : Prop :=
  ∀ (s : State) (rd rs1 rs2 : BitVec 5) (p q : BitVec 3),
    let x := s.cpu.xlen
    let k := U32 s rs2 % 32
    (∀ imm, Writes (.addiw rd rs1 imm) s rd (word x (S32 s rs1 + imm.toInt)) (after s 4)) ∧
      (∀ n, Writes (.slliw rd rs1 n) s rd (word x (U32 s rs1 * 2 ^ n.toNat)) (after s 4)) ∧
      (∀ n, Writes (.srliw rd rs1 n) s rd (word x (U32 s rs1 / 2 ^ n.toNat)) (after s 4)) ∧
      (∀ n, Writes (.sraiw rd rs1 n) s rd (word x (S32 s rs1 / 2 ^ n.toNat)) (after s 4)) ∧
      Writes (.addw rd rs1 rs2) s rd (word x (S32 s rs1 + S32 s rs2)) (after s 4) ∧
      Writes (.subw rd rs1 rs2) s rd (word x (S32 s rs1 - S32 s rs2)) (after s 4) ∧
      Writes (.sllw rd rs1 rs2) s rd (word x (U32 s rs1 * 2 ^ k)) (after s 4) ∧
      Writes (.srlw rd rs1 rs2) s rd (word x (U32 s rs1 / 2 ^ k)) (after s 4) ∧
      Writes (.sraw rd rs1 rs2) s rd (word x (S32 s rs1 / 2 ^ k)) (after s 4) ∧
      (∀ imm, Writes (.cAddiw rd imm) s rd (word x (S32 s rd + imm.toInt)) (after s 2)) ∧
      Writes (.cSubw p q) s (reg8 p) (word x (S32 s (reg8 p) - S32 s (reg8 q))) (after s 2) ∧
      Writes (.cAddw p q) s (reg8 p) (word x (S32 s (reg8 p) + S32 s (reg8 q))) (after s 2)

/-- MUL, MULH, MULHSU, MULHU and MULW: halves of the exact product. -/
def Obligations.MultiplyResults : Prop :=
  ∀ (s : State) (rd rs1 rs2 : BitVec 5),
    let x := s.cpu.xlen
    Writes (.mul rd rs1 rs2) s rd (reg x (S s rs1 * S s rs2)) (after s 4) ∧
      Writes (.mulh rd rs1 rs2) s rd (reg x (S s rs1 * S s rs2 / 2 ^ bits x)) (after s 4) ∧
      Writes (.mulhsu rd rs1 rs2) s rd (reg x (S s rs1 * U s rs2 / 2 ^ bits x)) (after s 4) ∧
      Writes (.mulhu rd rs1 rs2) s rd (reg x ((U s rs1 : Int) * U s rs2 / 2 ^ bits x)) (after s 4) ∧
      Writes (.mulw rd rs1 rs2) s rd (word x (S32 s rs1 * S32 s rs2)) (after s 4)

/-- The divisions and remainders; a zero divisor gives all ones, and the dividend as remainder. The word forms by zero give a free
value, whatever it is. That an inexact signed quotient is rounded toward zero, that the remainder of REMW has the sign of the dividend,
and that the quotient that overflows wraps, is the model's reading (log 23). -/
def Obligations.DivideResults : Prop :=
  ∀ (s : State) (rd rs1 rs2 : BitVec 5),
    let x := s.cpu.xlen
    let free := fun f : BitVec 32 → BitVec 32 => (f ((readX s.cpu rs1).setWidth 32)).toInt
    Writes (.div rd rs1 rs2) s rd (reg x (if S s rs2 = 0 then -1 else (S s rs1).tdiv (S s rs2))) (after s 4) ∧
      Writes (.divu rd rs1 rs2) s rd (reg x (if U s rs2 = 0 then -1 else (U s rs1 / U s rs2 : Nat))) (after s 4) ∧
      Writes (.rem rd rs1 rs2) s rd (reg x (if S s rs2 = 0 then S s rs1 else (S s rs1).tmod (S s rs2))) (after s 4) ∧
      Writes (.remu rd rs1 rs2) s rd (reg x (if U s rs2 = 0 then U s rs1 else (U s rs1 % U s rs2 : Nat))) (after s 4) ∧
      Writes (.divw rd rs1 rs2) s rd (word x (if S32 s rs2 = 0 then free Config.divwByZero else (S32 s rs1).tdiv (S32 s rs2))) (after s 4) ∧
      Writes (.divuw rd rs1 rs2) s rd (word x (if U32 s rs2 = 0 then free Config.divuwByZero else (U32 s rs1 / U32 s rs2 : Nat))) (after s 4) ∧
      Writes (.remw rd rs1 rs2) s rd (word x (if S32 s rs2 = 0 then free Config.remwByZero else (S32 s rs1).tmod (S32 s rs2))) (after s 4) ∧
      Writes (.remuw rd rs1 rs2) s rd (word x (if U32 s rs2 = 0 then free Config.remuwByZero else (U32 s rs1 % U32 s rs2 : Nat))) (after s 4)

/-- Loads that raise nothing (mapped pages, and aligned where a misaligned access raises): the little-endian value of the bytes,
sign- or zero-extended, in `rd`. -/
def Obligations.LoadResults : Prop :=
  ∀ (s : State) (rd rs1 : BitVec 5) (p q : BitVec 3),
    let x := s.cpu.xlen
    (∀ imm : BitVec 12, let a := effAddr s.cpu rs1 (imm.signExtend 64)
      (Accessible s a 1 → Writes (.lb rd rs1 imm) s rd (reg x (leInt s a 1)) (after s 4)) ∧
      (Accessible s a 2 → Writes (.lh rd rs1 imm) s rd (reg x (leInt s a 2)) (after s 4)) ∧
      (Accessible s a 4 → Writes (.lw rd rs1 imm) s rd (reg x (leInt s a 4)) (after s 4)) ∧
      (Accessible s a 8 → Writes (.ld rd rs1 imm) s rd (reg x (leInt s a 8)) (after s 4)) ∧
      (Accessible s a 1 → Writes (.lbu rd rs1 imm) s rd (reg x (leNat s a 1)) (after s 4)) ∧
      (Accessible s a 2 → Writes (.lhu rd rs1 imm) s rd (reg x (leNat s a 2)) (after s 4)) ∧
      (Accessible s a 4 → Writes (.lwu rd rs1 imm) s rd (reg x (leNat s a 4)) (after s 4))) ∧
    (∀ u : BitVec 7, let a := effAddr s.cpu (reg8 q) (u.setWidth 64)
      Accessible s a 4 → Writes (.cLw p q u) s (reg8 p) (reg x (leInt s a 4)) (after s 2)) ∧
    (∀ u : BitVec 8, let a := effAddr s.cpu (reg8 q) (u.setWidth 64)
      Accessible s a 8 → Writes (.cLd p q u) s (reg8 p) (reg x (leInt s a 8)) (after s 2)) ∧
    (∀ u : BitVec 8, let a := effAddr s.cpu 2 (u.setWidth 64)
      Accessible s a 4 → Writes (.cLwsp rd u) s rd (reg x (leInt s a 4)) (after s 2)) ∧
    (∀ u : BitVec 9, let a := effAddr s.cpu 2 (u.setWidth 64)
      Accessible s a 8 → Writes (.cLdsp rd u) s rd (reg x (leInt s a 8)) (after s 2))

/-- Stores that raise nothing (mapped pages, and aligned where a misaligned access raises): the low bytes of the register at the
effective address, and no other byte changed. -/
def Obligations.StoreResults : Prop :=
  ∀ (s : State) (rs1 rs2 : BitVec 5) (p q : BitVec 3), s.memWf = true →
    (∀ imm : BitVec 12, let a := effAddr s.cpu rs1 (imm.signExtend 64)
      (Accessible s a 1 → Stores (.sb rs1 rs2 imm) s a 1 (readX s.cpu rs2) (after s 4)) ∧
      (Accessible s a 2 → Stores (.sh rs1 rs2 imm) s a 2 (readX s.cpu rs2) (after s 4)) ∧
      (Accessible s a 4 → Stores (.sw rs1 rs2 imm) s a 4 (readX s.cpu rs2) (after s 4)) ∧
      (Accessible s a 8 → Stores (.sd rs1 rs2 imm) s a 8 (readX s.cpu rs2) (after s 4))) ∧
    (∀ u : BitVec 7, let a := effAddr s.cpu (reg8 p) (u.setWidth 64)
      Accessible s a 4 → Stores (.cSw p q u) s a 4 (readX s.cpu (reg8 q)) (after s 2)) ∧
    (∀ u : BitVec 8, let a := effAddr s.cpu (reg8 p) (u.setWidth 64)
      Accessible s a 8 → Stores (.cSd p q u) s a 8 (readX s.cpu (reg8 q)) (after s 2)) ∧
    (∀ u : BitVec 8, let a := effAddr s.cpu 2 (u.setWidth 64)
      Accessible s a 4 → Stores (.cSwsp rs2 u) s a 4 (readX s.cpu rs2) (after s 2)) ∧
    (∀ u : BitVec 9, let a := effAddr s.cpu 2 (u.setWidth 64)
      Accessible s a 8 → Stores (.cSdsp rs2 u) s a 8 (readX s.cpu rs2) (after s 2))

/-- A load or a store that is misaligned, on a machine where that raises, or that meets an unmapped page, traps with the access's
address, before anything is written (R203; logs 9, 10). -/
def Obligations.DataAccessFaultsLeaveNoTrace : Prop :=
  ∀ (s : State) (rd rs1 rs2 : BitVec 5) (p q : BitVec 3) (k : DataTrap),
    let lf := match k with
      | .misaligned => TrapKind.loadAddressMisaligned
      | .unmapped .access => .loadAccessFault
      | .unmapped .page => .loadPageFault
    let sf := match k with
      | .misaligned => TrapKind.storeAddressMisaligned
      | .unmapped .access => .storeAccessFault
      | .unmapped .page => .storePageFault
    (∀ imm : BitVec 12, let a := effAddr s.cpu rs1 (imm.signExtend 64)
      (Faults s a 1 k → Traps (.lb rd rs1 imm) s lf a ∧ Traps (.lbu rd rs1 imm) s lf a ∧ Traps (.sb rs1 rs2 imm) s sf a) ∧
      (Faults s a 2 k → Traps (.lh rd rs1 imm) s lf a ∧ Traps (.lhu rd rs1 imm) s lf a ∧ Traps (.sh rs1 rs2 imm) s sf a) ∧
      (Faults s a 4 k → Traps (.lw rd rs1 imm) s lf a ∧ Traps (.lwu rd rs1 imm) s lf a ∧ Traps (.sw rs1 rs2 imm) s sf a) ∧
      (Faults s a 8 k → Traps (.ld rd rs1 imm) s lf a ∧ Traps (.sd rs1 rs2 imm) s sf a)) ∧
    (∀ u : BitVec 7, let a := effAddr s.cpu (reg8 q) (u.setWidth 64)
      Faults s a 4 k → Traps (.cLw p q u) s lf a ∧ Traps (.cSw q p u) s sf a) ∧
    (∀ u : BitVec 8, let a := effAddr s.cpu (reg8 q) (u.setWidth 64)
      Faults s a 8 k → Traps (.cLd p q u) s lf a ∧ Traps (.cSd q p u) s sf a) ∧
    (∀ u : BitVec 8, let a := effAddr s.cpu 2 (u.setWidth 64)
      Faults s a 4 k → Traps (.cLwsp rd u) s lf a ∧ Traps (.cSwsp rs2 u) s sf a) ∧
    (∀ u : BitVec 9, let a := effAddr s.cpu 2 (u.setWidth 64)
      Faults s a 8 k → Traps (.cLdsp rd u) s lf a ∧ Traps (.cSdsp rs2 u) s sf a)

/-- The branches: to `pc0 + imm` when the condition holds on the low `xlen` bits, else past the instruction; no register. -/
def Obligations.BranchResults : Prop :=
  ∀ (s : State) (rs1 rs2 : BitVec 5) (p : BitVec 3),
    let x := s.cpu.xlen
    (∀ imm : BitVec 13, let t := addr x (s.lat.pc0.toInt + imm.toInt)
      OnlyPc (.beq rs1 rs2 imm) s (if U s rs1 = U s rs2 then t else after s 4) ∧
      OnlyPc (.bne rs1 rs2 imm) s (if U s rs1 ≠ U s rs2 then t else after s 4) ∧
      OnlyPc (.blt rs1 rs2 imm) s (if S s rs1 < S s rs2 then t else after s 4) ∧
      OnlyPc (.bge rs1 rs2 imm) s (if S s rs1 ≥ S s rs2 then t else after s 4) ∧
      OnlyPc (.bltu rs1 rs2 imm) s (if U s rs1 < U s rs2 then t else after s 4) ∧
      OnlyPc (.bgeu rs1 rs2 imm) s (if U s rs1 ≥ U s rs2 then t else after s 4)) ∧
    (∀ imm : BitVec 9, let t := addr x (s.lat.pc0.toInt + imm.toInt)
      OnlyPc (.cBeqz p imm) s (if U s (reg8 p) = 0 then t else after s 2) ∧
      OnlyPc (.cBnez p imm) s (if U s (reg8 p) ≠ 0 then t else after s 2))

/-- The jumps: the link is `pc0` plus the encoded width, 4 or 2 (R236 (f)); a register target has bit 0 cleared and is read
before the link is written. -/
def Obligations.JumpResults : Prop :=
  ∀ (s : State) (rd rs1 : BitVec 5),
    let x := s.cpu.xlen
    let link := fun n : Int => reg x (s.lat.pc0.toInt + n)
    let even := fun i : Int => addr x (i - i % 2)
    (∀ imm, Writes (.jal rd imm) s rd (link 4) (addr x (s.lat.pc0.toInt + imm.toInt))) ∧
      (∀ imm, Writes (.jalr rd rs1 imm) s rd (link 4) (even (S s rs1 + imm.toInt))) ∧
      (∀ imm, OnlyPc (.cJ imm) s (addr x (s.lat.pc0.toInt + imm.toInt))) ∧
      (∀ imm, Writes (.cJal imm) s 1 (link 2) (addr x (s.lat.pc0.toInt + imm.toInt))) ∧
      OnlyPc (.cJr rs1) s (even (S s rs1)) ∧
      Writes (.cJalr rs1) s 1 (link 2) (even (S s rs1))

/-- FENCE, FENCE.I, WFI, C.NOP, and SFENCE.VMA where permitted, only advance (log 18). -/
def Obligations.FencesWaitsAndNopsOnlyAdvance : Prop :=
  ∀ (s : State) (rs1 rs2 : BitVec 5),
    OnlyPc .fence s (after s 4) ∧ OnlyPc .fenceI s (after s 4) ∧ OnlyPc .wfi s (after s 4) ∧ OnlyPc .cNop s (after s 2) ∧
      ((s.cpu.priv = .machine ∨ (s.cpu.priv = .supervisor ∧ (csrGet s.cpu 0x300).getLsbD 20 = false)) →
        OnlyPc (.sfenceVma rs1 rs2) s (after s 4))

/-- ECALL raises the environment call of the privilege mode with value 0; EBREAK and C.EBREAK raise breakpoint with the address
that `pc` holds; the marker rows raise illegal instruction with the latched opcode. -/
def Obligations.EnvironmentCallsAndMarkersTrap : Prop :=
  ∀ s : State,
    (s.cpu.priv = .user → Traps .ecall s .envCallU 0) ∧
      (s.cpu.priv = .supervisor → Traps .ecall s .envCallS 0) ∧
      (s.cpu.priv = .machine → Traps .ecall s .envCallM 0) ∧
      Traps .ebreak s .breakpoint s.cpu.pc ∧ Traps .cEbreak s .breakpoint s.cpu.pc ∧
      ∀ i, (i = .illegalCAddi4spnZ ∨ i = .illegalCAddiwRd0 ∨ i = .illegalCAddi16spZ ∨ i = .illegalCLuiZ ∨
          i = .illegalCLwspRd0 ∨ i = .illegalCLdspRd0 ∨ i = .illegalCJrRs1z) →
        Traps i s .illegalInstruction (s.lat.opcode.setWidth 64)

/-- The CSR instructions on a permitted CSR: the old value to `rd`, the new value, or the bits set or
cleared, to the CSR; no write when the source is x0 or a zero immediate; `sstatus` is a view of `mstatus` (logs 11, 12). -/
def Obligations.CsrAccessResults : Prop :=
  ∀ (s : State) (rd rs1 u : BitVec 5) (n : BitVec 12), s.csrWf = true →
    let old := seen s n
    let r := readX s.cpu rs1
    let z : Word := u.setWidth 64
    (Permitted s n true → CsrMoves (.csrrw rd rs1 n) s rd n true r ∧ CsrMoves (.csrrwi rd u n) s rd n true z) ∧
      (Permitted s n (rs1 != 0#5) →
        CsrMoves (.csrrs rd rs1 n) s rd n (rs1 != 0#5) (old ||| r) ∧
        CsrMoves (.csrrc rd rs1 n) s rd n (rs1 != 0#5) (old &&& ~~~r)) ∧
      (Permitted s n (u != 0#5) →
        CsrMoves (.csrrsi rd u n) s rd n (u != 0#5) (old ||| z) ∧
        CsrMoves (.csrrci rd u n) s rd n (u != 0#5) (old &&& ~~~z))

/-- Privileged forms that are not permitted raise illegal instruction with their opcode word: a CSR out of reach, MRET outside M,
SRET and SFENCE.VMA in U or, with TSR or TVM set, in S (logs 11, 16, 17, 18). -/
def Obligations.PrivilegedFormsTrapWhenNotPermitted : Prop :=
  ∀ (s : State) (rd rs1 rs2 : BitVec 5) (n : BitVec 12),
    let ill := fun i : Instr => Traps i s .illegalInstruction ((encode i).setWidth 64)
    (¬ Permitted s n true → ill (.csrrw rd rs1 n) ∧ ill (.csrrwi rd rs1 n)) ∧
      (¬ Permitted s n (rs1 != 0#5) →
        ill (.csrrs rd rs1 n) ∧ ill (.csrrc rd rs1 n) ∧ ill (.csrrsi rd rs1 n) ∧ ill (.csrrci rd rs1 n)) ∧
      (s.cpu.priv ≠ .machine → ill .mret) ∧
      ((s.cpu.priv = .user ∨ (s.cpu.priv = .supervisor ∧ (csrGet s.cpu 0x300).getLsbD 22 = true)) → ill .sret) ∧
      ((s.cpu.priv = .user ∨ (s.cpu.priv = .supervisor ∧ (csrGet s.cpu 0x300).getLsbD 20 = true)) →
        ill (.sfenceVma rs1 rs2))

/-- MRET in M: `pc` from `mepc`, the mode from MPP, MIE from MPIE; MPIE set, MPP cleared, MPRV cleared when M is left; every
other bit of `mstatus`, every other CSR, every register and memory as before (log 16). That MPP = 2, which names no mode, returns
to U is the model's choice (log 32). -/
def Obligations.MretRestoresPcModeAndInterruptEnable : Prop :=
  ∀ s : State, s.csrWf = true → s.cpu.priv = .machine →
    let old := csrGet s.cpu 0x300
    let mode := if old.getLsbD 12 = true ∧ old.getLsbD 11 = true then Priv.machine
      else if old.getLsbD 12 = false ∧ old.getLsbD 11 = true then Priv.supervisor else Priv.user
    ∃ t, exec .mret s = .next t ∧ t.outcome = some .retired ∧ t.cpu.priv = mode ∧
      t.cpu.pc = addr s.cpu.xlen ((csrGet s.cpu 0x341).toInt - (csrGet s.cpu 0x341).toInt % 2) ∧
      (∀ i < 64, (csrGet t.cpu 0x300).getLsbD i =
        if i = 3 then old.getLsbD 7 else if i = 7 then true else if i = 11 ∨ i = 12 then false
        else if i = 17 ∧ mode ≠ .machine then false else old.getLsbD i) ∧
      (∀ m, m ≠ 0x300#12 → csrGet t.cpu m = csrGet s.cpu m) ∧ SameRegs s t ∧ SameMem s t ∧ SameBlock s t

/-- SRET in M, or in S with TSR clear: `pc` from `sepc`, the mode from SPP, SIE from SPIE; SPIE set, SPP and MPRV cleared (log 16). -/
def Obligations.SretRestoresPcModeAndInterruptEnable : Prop :=
  ∀ s : State, s.csrWf = true →
    let old := csrGet s.cpu 0x300
    (s.cpu.priv = .machine ∨ (s.cpu.priv = .supervisor ∧ old.getLsbD 22 = false)) →
    ∃ t, exec .sret s = .next t ∧ t.outcome = some .retired ∧
      t.cpu.priv = (if old.getLsbD 8 = true then .supervisor else .user) ∧
      t.cpu.pc = addr s.cpu.xlen ((csrGet s.cpu 0x141).toInt - (csrGet s.cpu 0x141).toInt % 2) ∧
      (∀ i < 64, (csrGet t.cpu 0x300).getLsbD i =
        if i = 1 then old.getLsbD 5 else if i = 5 then true else if i = 8 ∨ i = 17 then false else old.getLsbD i) ∧
      (∀ m, m ≠ 0x300#12 → csrGet t.cpu m = csrGet s.cpu m) ∧ SameRegs s t ∧ SameMem s t ∧ SameBlock s t

/-! ## The reference machine: traps -/

/-- Trap entry into M: `mepc`, `mcause`, `mtval` and `mstatus` written, M entered, `pc` at the base in `mtvec` when it is not zero;
every other CSR, the registers, memory, the width, the page map and the alignment policy as before, for any TRAP_CODE (R4; logs 13,
14). -/
def Obligations.TrapEntryIntoMachineMode : Prop :=
  ∀ (code : TrapKind → Nat) (k : TrapKind) (v : Word) (c : Cpu), Store.wf c.csr = true →
    (c.priv = .machine ∨ (csrGet c 0x302).getLsbD (code k) = false) →
    let t := deliverWith code k v c
    let old := csrGet c 0x300
    t.priv = .machine ∧ csrGet t 0x341 = c.pc ∧ csrGet t 0x342 = BitVec.ofNat 64 (code k) ∧ csrGet t 0x343 = v ∧
      t.pc = (if csrGet c 0x305 = 0#64 then c.pc
        else addr c.xlen ((csrGet c 0x305).toInt - (csrGet c 0x305).toInt % 4)) ∧
      (∀ i < 64, (csrGet t 0x300).getLsbD i =
        if i = 7 then old.getLsbD 3 else if i = 3 then false
        else if i = 11 then decide (c.priv ≠ .user) else if i = 12 then decide (c.priv = .machine) else old.getLsbD i) ∧
      (∀ m, m ≠ 0x300#12 → m ≠ 0x341#12 → m ≠ 0x342#12 → m ≠ 0x343#12 → csrGet t m = csrGet c m) ∧
      t.x = c.x ∧ t.mem = c.mem ∧ t.xlen = c.xlen ∧ t.unmapped = c.unmapped ∧ t.align = c.align

/-- Trap entry into S, for a trap from U or S that `medeleg` delegates, for any TRAP_CODE (R4; logs 13, 14). -/
def Obligations.DelegatedTrapEntryIntoSupervisorMode : Prop :=
  ∀ (code : TrapKind → Nat) (k : TrapKind) (v : Word) (c : Cpu), Store.wf c.csr = true → c.priv ≠ .machine →
    (csrGet c 0x302).getLsbD (code k) = true →
    let t := deliverWith code k v c
    let old := csrGet c 0x300
    t.priv = .supervisor ∧ csrGet t 0x141 = c.pc ∧ csrGet t 0x142 = BitVec.ofNat 64 (code k) ∧ csrGet t 0x143 = v ∧
      t.pc = (if csrGet c 0x105 = 0#64 then c.pc
        else addr c.xlen ((csrGet c 0x105).toInt - (csrGet c 0x105).toInt % 4)) ∧
      (∀ i < 64, (csrGet t 0x300).getLsbD i =
        if i = 5 then old.getLsbD 1 else if i = 1 then false
        else if i = 8 then decide (c.priv = .supervisor) else old.getLsbD i) ∧
      (∀ m, m ≠ 0x300#12 → m ≠ 0x141#12 → m ≠ 0x142#12 → m ≠ 0x143#12 → csrGet t m = csrGet c m) ∧
      t.x = c.x ∧ t.mem = c.mem ∧ t.xlen = c.xlen ∧ t.unmapped = c.unmapped ∧ t.align = c.align

/-- A trap into M followed at once by MRET gives back the trapping address, the mode and the interrupt enable, for any
TRAP_CODE (logs 13, 16). -/
def Obligations.MretUndoesMachineTrapEntry : Prop :=
  ∀ (code : TrapKind → Nat) (k : TrapKind) (v : Word) (c : Cpu), Store.wf c.csr = true →
    delegated c (code k) = false → isOdd c.pc = false →
    (c.xlen = .w64 ∨ c.pc.toNat < 2 ^ 32) →
    let u := returnM (deliverWith code k v c)
    u.pc = c.pc ∧ u.priv = c.priv ∧ (csrGet u 0x300).getLsbD 3 = (csrGet c 0x300).getLsbD 3 ∧ u.x = c.x ∧ u.mem = c.mem

/-! ## The reference machine: the step -/

/-- Every instruction's meaning answers a next state, in every state: no instruction is refused and none faults. -/
def Obligations.EveryInstructionCompletes : Prop := ∀ (i : Instr) (s : State), ∃ t, exec i s = .next t

/-- A step runs the decoded instruction: when the bytes at `pc`, in mapped pages, are a 4-byte or a 2-byte instruction whose
declaration the tree gives, the step is `exec` of it at the state in which the loop calls it. -/
def Obligations.StepRunsTheDecodedInstruction : Prop :=
  ∀ (s : State) (e : Nat) (d : Declaration) (i : Instr), Starts s → s.bind = refBind → d.mnemonic ∈ refMnemonics →
    refTranslate s.cpu s.cpu.pc = .ok e →
    let lo := refReadHalf s.cpu e s.cpu.pc
    let runs := fun (hi : Half) (w : Opcode) (n : Nat) (l : List Call) =>
      decideTree (treeOf s s.cpu.xlen) w = .decl d → Instr.ofDecl d w = some i →
        step s = exec i (atExecute s d lo hi w n l)
    (isLong lo = false → runs s.lat.hi16 (shortOpcode lo) 2 [.translate s.cpu.pc, .readHalf s.cpu.pc]) ∧
      (isLong lo = true → s.cpu.pc.toNat % 4096 ≠ 4094 →
        let hi := refReadHalf s.cpu e (s.cpu.pc + 2)
        runs hi (longOpcode lo hi) 4 [.translate s.cpu.pc, .readHalf s.cpu.pc, .readHalf (s.cpu.pc + 2)]) ∧
      (isLong lo = true → s.cpu.pc.toNat % 4096 = 4094 → ∀ e2, refTranslate s.cpu (s.cpu.pc + 2) = .ok e2 →
        let hi := refReadHalf s.cpu e2 (s.cpu.pc + 2)
        runs hi (longOpcode lo hi) 4
          [.translate s.cpu.pc, .readHalf s.cpu.pc, .translate (s.cpu.pc + 2), .readHalf (s.cpu.pc + 2)])

/-- A step decodes bytes: in a good state whose four bytes at `pc` are mapped and decode to an instruction under the active width,
the step leaves the CPU state that `exec` of that instruction leaves after the latches that the fetch fills. -/
def Obligations.StepRunsWhatTheBytesDecodeTo : Prop :=
  ∀ (s : State) (i : Instr) (rest : List Byte), s.Inv → breakpointAt s.bp s.cpu.pc = false →
    (∀ j < 4, tagOf s.cpu.unmapped (pageOf (s.cpu.pc + BitVec.ofNat 64 j)) = none) →
    let b := fun j : Nat => byteAt s.cpu (s.cpu.pc + BitVec.ofNat 64 j)
    decode s.cpu.xlen [b 0, b 1, b 2, b 3] = .ok (i, rest) →
    ∃ (lat : Latches) (calls : List Call) (t u : State), lat.pc0 = s.cpu.pc ∧ lat.ilen = i.decl.width ∧
      lat.opcode.toNat = (if i.decl.width = 2 then (b 0).toNat + 256 * (b 1).toNat
        else (b 0).toNat + 256 * (b 1).toNat + 65536 * (b 2).toNat + 16777216 * (b 3).toNat) ∧
      exec i { s with lat := lat, calls := calls } = .next t ∧ step s = .next u ∧ u.cpu = t.cpu ∧ u.outcome = t.outcome

/-- The step is the generic pass with the reference collaborators, in every state, whatever its trees and binding: the typed meanings
of `exec` and the handlers on operand lists are one machine. -/
def Obligations.StepIsTheGenericPass : Prop :=
  ∀ s : State, step s = pass refCollaborators s

/-- Every step keeps the invariant, and so does every pass with another TRAP_CODE (R4). -/
def Obligations.EveryStepKeepsTheInvariant : Prop :=
  ∀ s t : State, s.Inv →
    (step s = .next t → t.Inv) ∧ ∀ code : TrapKind → Nat, pass (collaboratorsWith code) s = .next t → t.Inv

/-- The invariant holds at reset. -/
def Obligations.ResetMeetsTheInvariant : Prop := State.reset.Inv

/-- From every state that meets the invariant a step answers a next state: no data, no opcode, no privilege mode and no trap
stops the machine; nor any pass with another TRAP_CODE (R4). -/
def Obligations.NoGoodStateStops : Prop :=
  ∀ s : State, s.Inv → (∃ t, step s = .next t) ∧ ∀ code : TrapKind → Nat, ∃ t, pass (collaboratorsWith code) s = .next t

/-- RUN(n) completes from every good state without breakpoints, whatever traps occur, and leaves a good state. -/
def Obligations.RunCompletesFromGoodStates : Prop :=
  ∀ (n : Nat) (s : State), s.Inv → s.bp = none → ∃ t, run n s = .next (t, .completed) ∧ t.Inv ∧ t.budget = 0

/-- A U-mode instruction that does not trap stays in U and changes no CSR above user level. -/
def Obligations.UserModeCannotReachPrivilegedState : Prop :=
  ∀ (i : Instr) (s t : State), s.csrWf = true → s.cpu.priv = .user → exec i s = .next t → t.outcome = some .retired →
    t.cpu.priv = .user ∧ ∀ n : BitVec 12, n.toNat / 256 % 4 ≠ 0 → csrGet t.cpu n = csrGet s.cpu n

/-- Only a trap, MRET or SRET changes the privilege mode, and no instruction changes the width, the page map or the alignment
policy (logs 9, 31). -/
def Obligations.OnlyTrapsAndReturnsChangeTheMode : Prop :=
  ∀ (i : Instr) (s t : State), exec i s = .next t →
    t.cpu.xlen = s.cpu.xlen ∧ t.cpu.unmapped = s.cpu.unmapped ∧ t.cpu.align = s.cpu.align ∧
      (t.outcome = some .retired → i ≠ .mret → i ≠ .sret → t.cpu.priv = s.cpu.priv)
end

