-- ==== Sys2Proof/Laws/Trees.lean ====
section
/-! SUPPORT. The reference trees are what BUILD makes of the reference set, for both widths (10_state.md R13), and what STARTUP,
its checks, the checked encoder and a host command do, case by case. -/

namespace Sys2Proof.Machine

-- Kernel evaluations one after another: each that waits for an earlier one holds a thread.
set_option Elab.async false

theorem build_refDecls32 : build (variantDecls .w32 refDecls) = .ok refTree32 := by decide +kernel

theorem build_refDecls64 : build (variantDecls .w64 refDecls) = .ok refTree64 := by decide +kernel

/-- All that a STARTUP that is not refused can do. -/
theorem startup_cases {xr : Config.XlenReset} {ds : List Declaration} {hs : List Binding} {s : State} (h : s.phase = .unbuilt) :
    (∃ t32 t64 b, startupChecks ds hs = .ok (t32, t64, b) ∧ startup xr ds hs s = .next (ready xr t32 t64 b s)) ∨
      ∃ e, startupChecks ds hs = .error e ∧ startup xr ds hs s = .fault e := by
  unfold startup
  cases hc : startupChecks ds hs with
  | ok r => obtain ⟨t32, t64, b⟩ := r; exact .inl ⟨t32, t64, b, rfl, by simp [h]⟩
  | error e => exact .inr ⟨e, rfl, by simp [h]⟩

/-! ## Calling handlers -/

/-- A reference handler returns, and answers as `refHandler` says. -/
theorem callHandler_reference (h : HandlerRef) (a : List Word) (c : Cpu) (hm : h ∈ refMnemonics) :
    callHandler h a c = .returns (refHandler h a c) := by
  unfold callHandler
  rw [if_pos (by simpa using hm)]

/-- Everything that EXECUTE and UPDATE-PC of the reference machine can be, in a state whose latch holds a declaration. -/
theorem runLatched_cases (s : State) (d : Declaration) (h : s.lat.res = .decl d) :
    (∃ i, boundToReference s.bind d.mnemonic = true ∧ Instr.ofDecl d s.lat.opcode = some i ∧
        runLatched s = exec i (noteCall (.handler d.mnemonic s.lat.args) s)) ∨
      ((boundToReference s.bind d.mnemonic = false ∨ Instr.ofDecl d s.lat.opcode = none) ∧ runLatched s = runBound s) := by
  unfold runLatched boundInstr
  simp only [h]
  cases hb : boundToReference s.bind d.mnemonic
  · exact .inr ⟨.inl rfl, by simp⟩
  · cases hi : Instr.ofDecl d s.lat.opcode with
    | some i => exact .inl ⟨i, rfl, rfl, by simp⟩
    | none => exact .inr ⟨.inr rfl, by simp⟩

theorem boundToReference_iff (l : List Binding) (m : Mnemonic) :
    boundToReference l m = true ↔ m ∈ refMnemonics ∧ bindOf l m = some (refBinding m) := by
  simp [boundToReference]

/-! ## Declaration sets and encodings -/

theorem consistentMnemonics_iff (ds : List Declaration) : consistentMnemonics ds = true ↔
    ∀ d ∈ ds, ∀ e ∈ ds, d.mnemonic = e.mnemonic → d.pcclass = e.pcclass ∧ d.kind = e.kind := by
  simp only [consistentMnemonics, List.all_eq_true, Bool.or_eq_true, bne_iff_ne, Bool.and_eq_true, beq_iff_eq]
  exact forall₄_congr fun d _ e _ => (imp_iff_not_or (a := d.mnemonic = e.mnemonic)).symm

theorem encodeChecked_eq_some (d : Declaration) (vs : List Word) (w : Opcode) :
    encodeChecked d vs = some w ↔ valuesInRange d vs = true ∧ encodeWith d vs = w := by
  unfold encodeChecked
  split <;> simp_all

/-! ## The checks of STARTUP and the state that a command leaves -/

/-- Everything that `startupChecks` can do. -/
theorem startupChecks_ok (ds : List Declaration) (hs : List Binding) (t32 t64 : Tree) (b : List Binding) :
    startupChecks ds hs = .ok (t32, t64, b) ↔
      build (variantDecls .w32 ds) = .ok t32 ∧ build (variantDecls .w64 ds) = .ok t64 ∧ consistentMnemonics ds = true ∧
        missingHandler ds hs = none ∧ (conforms (decideTree t32) && conforms (decideTree t64)) = true ∧
        b = restrictBinding ds hs := by
  unfold startupChecks
  cases build (variantDecls .w32 ds) with
  | error e => simp
  | ok u32 =>
    cases build (variantDecls .w64 ds) with
    | error e => simp
    | ok u64 =>
      cases consistentMnemonics ds
      · simp
      · cases missingHandler ds hs with
        | some m => simp
        | none =>
          simp only [if_true, Except.ok.injEq, true_and]
          split
          · simp only [Except.ok.injEq, Prod.mk.injEq]
            constructor
            · rintro ⟨rfl, rfl, rfl⟩
              exact ⟨rfl, rfl, ‹_›, rfl⟩
            · rintro ⟨rfl, rfl, -, rfl⟩
              exact ⟨rfl, rfl, rfl⟩
          · constructor
            · intro h
              cases h
            · rintro ⟨rfl, rfl, h, -⟩
              exact absurd h ‹_›

/-- Where a RUN that completes or stops is, is the state that it answers. -/
theorem whereRunIs_next (onePass : State → Result) (n : Nat) (s t : State) (a : RunAnswer)
    (h : runLoop onePass n s = .next (t, a)) : whereRunIs onePass n s = t := by
  induction n generalizing s with
  | zero => cases h; rfl
  | succ n ih =>
    simp only [runLoop] at h
    simp only [whereRunIs]
    cases hp : onePass { s with budget := n + 1 } with
    | next u =>
      simp only [hp] at h ⊢
      cases hs : stopOf u.outcome with
      | some b => simp only [hs] at h ⊢; cases h; rfl
      | none => simp only [hs] at h ⊢; exact ih u h
    | fault r => simp only [hp] at h; cases h
    | refused r => simp only [hp] at h; cases h

/-- The answer of a command that is accepted and completes goes with the state that it leaves. -/
theorem afterCommand_next (xr : Config.XlenReset) (onePass : State → Result) (k : Command) (s t : State) (a : CommandAnswer)
    (h : command xr onePass k s = .next (t, a)) : afterCommand xr onePass k s = t := by
  cases k with
  | startup ds hs =>
    simp only [command] at h
    simp only [afterCommand, afterStartup]
    cases hc : startup xr ds hs s <;> rw [hc] at h <;> cases h
    rfl
  | reset e =>
    simp only [command] at h
    simp only [afterCommand]
    cases hc : hostReset xr e s <;> rw [hc] at h <;> cases h
    rfl
  | setXlen w =>
    simp only [command] at h
    simp only [afterCommand]
    cases hc : setXlen w s <;> rw [hc] at h <;> cases h
    rfl
  | run n =>
    simp only [command, runWith] at h
    simp only [afterCommand, afterRun]
    split at h
    · rw [if_pos ‹_›]
      cases hc : runLoop onePass n s <;> rw [hc] at h <;> cases h
      exact whereRunIs_next onePass n s _ _ hc
    · cases h
  | invalidate =>
    simp only [command] at h
    simp only [afterCommand]
    cases hc : invalidate s <;> rw [hc] at h <;> cases h
    rfl
  | features =>
    simp only [command] at h
    cases hc : features s <;> rw [hc] at h <;> cases h
    rfl
  | setBreakpoints b =>
    simp only [command] at h
    simp only [afterCommand]
    cases hc : setBreakpoints b s <;> rw [hc] at h <;> cases h
    rfl

end Sys2Proof.Machine
end

