-- ==== Sys2Proof/Tests/Slice0.lean ====
section
/-! SUPPORT. The model's own tests: expected results are the vectors and examples of spec/ (named in each comment) or
calculations by hand from them; and one witness for the hypotheses of every statement that has some. -/

namespace Sys2Proof.Tests

-- Kernel evaluations one after another: each that waits for an earlier one holds a thread.
set_option Elab.async false

open Sys2Proof.Machine Sys2Proof.Claims

/-! ## Helpers -/

/-- The word decodes to the instruction, and the instruction encodes to the word. -/
def reads (x : Xlen) (w : Opcode) (i : Instr) : Bool := decide (decodeWord x w = some i) && encode i == w

/-- A test machine between passes: registers by number, `pc` and `pc0` at 0x1000. -/
def machine (x : Xlen) (regs : List (BitVec 5 × Word)) : State :=
  { State.reset with
    cpu := regs.foldl (fun c r => writeX c r.1 r.2) { Cpu.reset with xlen := x }
    lat := { Latches.reset with pc0 := 0x1000, xlen0 := x, opcode := 0x1234 } }

/-- Bytes stored from an address upward. -/
def bytes (a : Word) (l : List Byte) (c : Cpu) : Cpu :=
  match l with
  | [] => c
  | b :: t => bytes (a + 1) t (putByte c a b)

/-- The machine with bytes at `pc` = `a`. -/
def codeAt (a : Word) (l : List Byte) (s : State) : State := { s with cpu := { bytes a l s.cpu with pc := a } }

/-- The outcome is a next state with the property. -/
def nextWith (o : Result) (f : State → Bool) : Bool :=
  match o with
  | .next t => f t
  | .fault _ => false
  | .refused _ => false

/-- Registers of the result tests. -/
def operands : List (BitVec 5 × Word) :=
  [(2, 0x8000), (5, 0xFFFFFFFFFFFFFFFD), (6, 0x8000000100000047), (8, 0xFFFFFFFFFFFFFFFD), (9, 0x8000000100000047)]

/-- The instruction leaves the value in x7, or in x8, and the address of the next instruction in `pc`. -/
def gives (r : Xlen × Instr × Word) : Bool :=
  nextWith (exec r.2.1 (machine r.1 operands)) (fun t => readX t.cpu 7 == r.2.2 && t.cpu.pc == 0x1004)
def gives8 (r : Xlen × Instr × Word) : Bool :=
  nextWith (exec r.2.1 (machine r.1 operands)) (fun t => readX t.cpu 8 == r.2.2 && t.cpu.pc == 0x1002)

/-- A toy declaration: 2 or 4 bytes, common, regular, SEQ. -/
def toy (n : Nat) (width : Nat) (mask pattern : Opcode) (fields : List ArgField) : Declaration :=
  ⟨.other n, mask, pattern, fields, width, .common, .regular, .seq⟩

/-- A one-segment or many-segment unsigned field. -/
def fieldOf (segs : List Seg) : ArgField := ⟨.other 0, segs, false⟩

/-- A field of one bit. -/
def bitField (i : Nat) : ArgField := fieldOf [⟨i, i, 0⟩]

/-! ## Decoding: every instruction, from the word that spec/ writes out for it -/

/-- The example words of R301 to R321. -/
theorem test_decode_base_1 : ([
    (.w64, 0xFFFFE0B7, .lui 1 (-8192)), (.w64, 0xFFFFE097, .auipc 1 (-8192)), (.w64, 0xFFDFF0EF, .jal 1 (-4)),
    (.w64, 0xFFE100E7, .jalr 1 2 (-2)), (.w64, 0xFE310EE3, .beq 2 3 (-4)), (.w64, 0xFE311EE3, .bne 2 3 (-4)),
    (.w64, 0xFE314EE3, .blt 2 3 (-4)), (.w64, 0xFE315EE3, .bge 2 3 (-4)), (.w64, 0xFE316EE3, .bltu 2 3 (-4)),
    (.w64, 0xFE317EE3, .bgeu 2 3 (-4)), (.w64, 0xFFE10083, .lb 1 2 (-2)), (.w64, 0xFFE11083, .lh 1 2 (-2)),
    (.w64, 0xFFE12083, .lw 1 2 (-2)), (.w64, 0xFFE14083, .lbu 1 2 (-2)), (.w64, 0xFFE15083, .lhu 1 2 (-2)),
    (.w64, 0xFE310F23, .sb 2 3 (-2)), (.w64, 0xFE311F23, .sh 2 3 (-2)), (.w64, 0xFE312F23, .sw 2 3 (-2)),
    (.w64, 0xFFE10093, .addi 1 2 (-2)), (.w64, 0xFFE12093, .slti 1 2 (-2)), (.w64, 0xFFE13093, .sltiu 1 2 (-2))] : List (Xlen × Opcode × Instr)).all
    (fun r => reads r.1 r.2.1 r.2.2) = true := by decide +kernel

/-- The example words of R322 to R342. -/
theorem test_decode_base_2 : ([
    (.w64, 0xFFE14093, .xori 1 2 (-2)), (.w64, 0xFFE16093, .ori 1 2 (-2)), (.w64, 0xFFE17093, .andi 1 2 (-2)),
    (.w32, 0x00311093, .slli32 1 2 3), (.w32, 0x00315093, .srli32 1 2 3), (.w32, 0x40315093, .srai32 1 2 3),
    (.w64, 0x02111093, .slli64 1 2 33), (.w64, 0x02115093, .srli64 1 2 33), (.w64, 0x42115093, .srai64 1 2 33),
    (.w64, 0x003100B3, .add 1 2 3), (.w64, 0x403100B3, .sub 1 2 3), (.w64, 0x003110B3, .sll 1 2 3),
    (.w64, 0x003120B3, .slt 1 2 3), (.w64, 0x003130B3, .sltu 1 2 3), (.w64, 0x003140B3, .xor 1 2 3),
    (.w64, 0x003150B3, .srl 1 2 3), (.w64, 0x403150B3, .sra 1 2 3), (.w64, 0x003160B3, .or 1 2 3),
    (.w64, 0x003170B3, .and 1 2 3), (.w64, 0x0000000F, .fence), (.w64, 0x00000073, .ecall)] : List (Xlen × Opcode × Instr)).all
    (fun r => reads r.1 r.2.1 r.2.2) = true := by decide +kernel

/-- The example words of R343 to R356. -/
theorem test_decode_base_3 : ([
    (.w64, 0x00100073, .ebreak), (.w64, 0xFFE16083, .lwu 1 2 (-2)), (.w64, 0xFFE13083, .ld 1 2 (-2)),
    (.w64, 0xFE313F23, .sd 2 3 (-2)), (.w64, 0xFFE1009B, .addiw 1 2 (-2)), (.w64, 0x0031109B, .slliw 1 2 3),
    (.w64, 0x0031509B, .srliw 1 2 3), (.w64, 0x4031509B, .sraiw 1 2 3), (.w64, 0x003100BB, .addw 1 2 3),
    (.w64, 0x403100BB, .subw 1 2 3), (.w64, 0x003110BB, .sllw 1 2 3), (.w64, 0x003150BB, .srlw 1 2 3),
    (.w64, 0x403150BB, .sraw 1 2 3), (.w64, 0x0000100F, .fenceI)] : List (Xlen × Opcode × Instr)).all
    (fun r => reads r.1 r.2.1 r.2.2) = true := by decide +kernel

/-- The example words of R401 to R421. -/
theorem test_decode_system_1 : ([
    (.w64, 0x300110F3, .csrrw 1 2 768), (.w64, 0x300120F3, .csrrs 1 2 768), (.w64, 0x300130F3, .csrrc 1 2 768),
    (.w64, 0x3002D0F3, .csrrwi 1 5 768), (.w64, 0x3002E0F3, .csrrsi 1 5 768), (.w64, 0x3002F0F3, .csrrci 1 5 768),
    (.w64, 0x10200073, .sret), (.w64, 0x30200073, .mret), (.w64, 0x10500073, .wfi), (.w64, 0x12310073, .sfenceVma 2 3),
    (.w64, 0x023100B3, .mul 1 2 3), (.w64, 0x023110B3, .mulh 1 2 3), (.w64, 0x023120B3, .mulhsu 1 2 3),
    (.w64, 0x023130B3, .mulhu 1 2 3), (.w64, 0x023140B3, .div 1 2 3), (.w64, 0x023150B3, .divu 1 2 3),
    (.w64, 0x023160B3, .rem 1 2 3), (.w64, 0x023170B3, .remu 1 2 3), (.w64, 0x023100BB, .mulw 1 2 3),
    (.w64, 0x023140BB, .divw 1 2 3), (.w64, 0x023150BB, .divuw 1 2 3)] : List (Xlen × Opcode × Instr)).all
    (fun r => reads r.1 r.2.1 r.2.2) = true := by decide +kernel

/-- The example words of R422 to R423. -/
theorem test_decode_system_2 : ([
    (.w64, 0x023160BB, .remw 1 2 3), (.w64, 0x023170BB, .remuw 1 2 3)] : List (Xlen × Opcode × Instr)).all
    (fun r => reads r.1 r.2.1 r.2.2) = true := by decide +kernel

/-- The example words of R451 to R471. -/
theorem test_decode_compressed_1 : ([
    (.w64, 0x0000, .illegalCAddi4spnZ), (.w64, 0x0064, .cAddi4spn 1 12), (.w64, 0x4544, .cLw 1 2 12),
    (.w64, 0x6D04, .cLd 1 2 24), (.w64, 0xC54C, .cSw 2 3 12), (.w64, 0xED0C, .cSd 2 3 24), (.w64, 0x0001, .cNop),
    (.w64, 0x10F9, .cAddi 1 (-2)), (.w32, 0x3FF5, .cJal (-4)), (.w64, 0x2001, .illegalCAddiwRd0),
    (.w64, 0x30F9, .cAddiw 1 (-2)), (.w64, 0x50F9, .cLi 1 (-2)), (.w64, 0x6101, .illegalCAddi16spZ),
    (.w64, 0x713D, .cAddi16sp (-32)), (.w64, 0x6001, .illegalCLuiZ), (.w64, 0x70F9, .cLui 1 (-8192)),
    (.w32, 0x808D, .cSrli32 1 3), (.w32, 0x848D, .cSrai32 1 3), (.w64, 0x9085, .cSrli64 1 33), (.w64, 0x9485, .cSrai64 1 33),
    (.w64, 0x98F9, .cAndi 1 (-2))] : List (Xlen × Opcode × Instr)).all
    (fun r => reads r.1 r.2.1 r.2.2) = true := by decide +kernel

/-- The example words of R472 to R492. -/
theorem test_decode_compressed_2 : ([
    (.w64, 0x8C8D, .cSub 1 3), (.w64, 0x8CAD, .cXor 1 3), (.w64, 0x8CCD, .cOr 1 3), (.w64, 0x8CED, .cAnd 1 3),
    (.w64, 0x9C8D, .cSubw 1 3), (.w64, 0x9CAD, .cAddw 1 3), (.w64, 0xBFF5, .cJ (-4)), (.w64, 0xDD75, .cBeqz 2 (-4)),
    (.w64, 0xFD75, .cBnez 2 (-4)), (.w32, 0x008E, .cSlli32 1 3), (.w64, 0x1086, .cSlli64 1 33),
    (.w64, 0x4002, .illegalCLwspRd0), (.w64, 0x40B2, .cLwsp 1 12), (.w64, 0x6002, .illegalCLdspRd0),
    (.w64, 0x60E2, .cLdsp 1 24), (.w64, 0x8002, .illegalCJrRs1z), (.w64, 0x8102, .cJr 2), (.w64, 0x808E, .cMv 1 3),
    (.w64, 0x9002, .cEbreak), (.w64, 0x9102, .cJalr 2), (.w64, 0x908E, .cAdd 1 3)] : List (Xlen × Opcode × Instr)).all
    (fun r => reads r.1 r.2.1 r.2.2) = true := by decide +kernel

/-- The example words of R493 to R494. -/
theorem test_decode_compressed_3 : ([
    (.w64, 0xC60E, .cSwsp 3 12), (.w64, 0xEC0E, .cSdsp 3 24)] : List (Xlen × Opcode × Instr)).all
    (fun r => reads r.1 r.2.1 r.2.2) = true := by decide +kernel

/-- 43_application.md and 95_test_vectors.md V44, V46 to V51, V54, V56: corners of the scattered immediates. -/
theorem test_decode_corners : ([
    (.w64, 0x80010093, .addi 1 2 (-2048)), (.w64, 0x7FFFF0B7, .lui 1 2147479552), (.w64, 0xFE208EE3, .beq 1 2 (-4)),
    (.w64, 0x7E208FE3, .beq 1 2 4094), (.w64, 0x800000EF, .jal 1 (-1048576)), (.w64, 0x7FFFF0EF, .jal 1 1048574),
    (.w64, 0xFE112E23, .sw 2 1 (-4)), (.w64, 0x30011073, .csrrw 0 2 768), (.w64, 0x7139, .cAddi16sp (-64))] :
    List (Xlen × Opcode × Instr)).all (fun r => reads r.1 r.2.1 r.2.2) = true := by decide +kernel

/-- 95_test_vectors.md V19a to V19h, V34, V35: words of no declaration, of a marker, of one width only. -/
theorem test_decide_special : decideTree refTree64 0x04510133 = .illegal ∧ decideTree refTree64 0x6101 = .illegal ∧
    decideTree refTree64 0x6081 = .illegal ∧ decideTree refTree64 0x2005 = .illegal ∧ decideTree refTree64 0xFFFFFFFF = .illegal ∧
    decideTree refTree64 0xFFFF = .illegal ∧ decodeWord .w64 0x0005 = some .cNop ∧ decodeWord .w32 0x2005 = some (.cJal 32) ∧
    decideTree refTree32 0x02051513 = .illegal ∧ decodeWord .w64 0x02051513 = some (.slli64 10 10 32) ∧
    decideTree refTree32 0x6188 = .illegal ∧ decodeWord .w64 0x6188 = some (.cLd 2 3 0) := by decide +kernel

/-- The host's words: a row's word as the table numbers it; a 2-byte row, a 4-byte row, and one whose zero operands another
row owns (log 24). -/
theorem test_decodeTableWord : decodeTableWord 32 0x00510133 = some (.add 2 2 5) ∧ decodeTableWord 16 0x9002 = some .cEbreak ∧
    decodeTableWord 16 0x2001 = some .illegalCAddiwRd0 ∧ decodeTableWord 32 0x04510133 = none := by decide +kernel

/-! ## Well-formedness: one ill-formed term for each check -/

/-- 95_test_vectors.md V23: conditions 1 to 8 of R83, in its order. -/
theorem test_malformed_declarations : ([
    toy 0 3 0x7F 0x33 [], toy 0 4 0x7F 0xB3 [], toy 0 4 0x7C 0x30 [], toy 0 2 0xE003 0x3 [], toy 0 2 0x1E003 0x1 [],
    toy 0 2 0xE003 0x1 [fieldOf [⟨16, 13, 0⟩]], toy 0 4 0x7F 0x33 [fieldOf [⟨11, 7, 0⟩, ⟨19, 15, 0⟩]],
    toy 0 4 0x7F 0x33 [fieldOf [⟨11, 6, 0⟩]], toy 0 4 0x7F 0x33 [fieldOf [⟨11, 7, 0⟩], fieldOf [⟨15, 11, 0⟩]],
    toy 0 4 0x7F 0x33 [bitField 7, bitField 8, bitField 9, bitField 10, bitField 11, bitField 12],
    { toy 0 4 0x7F 0x33 [bitField 7] with kind := .illegal }, toy 0 4 0x7F 0x33 [fieldOf []],
    toy 0 4 0x7F 0x33 [fieldOf [⟨7, 11, 0⟩]]] : List Declaration).all (fun d => !d.wf) = true := by decide +kernel

/-- Each of the eight checks by itself refuses one of them. -/
theorem test_each_condition : (toy 0 3 0x7F 0x33 []).widthOk = false ∧ (toy 0 4 0x7F 0xB3 []).patternOk = false ∧
    (toy 0 4 0x7C 0x30 []).lengthBitsOk = false ∧ (toy 0 2 0x1E003 0x1 []).upperHalfOk = false ∧
    (toy 0 4 0x7F 0x33 [fieldOf [⟨11, 7, 0⟩, ⟨19, 15, 0⟩]]).segmentsOk = false ∧
    (toy 0 4 0x7F 0x33 [fieldOf [⟨11, 6, 0⟩]]).fieldsOk = false ∧
    (toy 0 4 0x7F 0x33 [bitField 7, bitField 8, bitField 9, bitField 10, bitField 11, bitField 12]).arityOk = false ∧
    ({ toy 0 4 0x7F 0x33 [bitField 7] with kind := .nop } : Declaration).markerOk = false := by decide +kernel

/-- R84, and V23's last row: one name twice is refused in one variant's set, not across the two variants. -/
theorem test_malformed_set : variantSetWf [toy 0 4 0x7F 0x33 [], toy 0 4 0x7F 0x13 []] = false ∧
    variantSetWf [toy 0 4 0x7F 0x33 [], toy 1 4 0x7F 0x13 []] = true ∧
    variantSetWf (variantDecls .w32 [{ toy 0 4 0x7F 0x33 [] with variant := .rv32 }, { toy 0 4 0x7F 0x13 [] with variant := .rv64 }])
      = true := by decide +kernel

/-- The reference set passes R83 and R84 under both widths (95_test_vectors.md V24: 91 and 116 declarations). -/
theorem test_reference_set_wf : refDecls.all Declaration.wf = true ∧ variantSetWf (variantDecls .w32 refDecls) = true ∧
    variantSetWf (variantDecls .w64 refDecls) = true ∧ (variantDecls .w32 refDecls).length = 91 ∧
    (variantDecls .w64 refDecls).length = 116 := by decide +kernel

/-- Ill-formed instructions: bits with no place in the word, the wrong width, an operand that another row owns. -/
theorem test_malformed_instructions : ([
    (.w64, .lui 1 1), (.w64, .jal 1 1), (.w64, .beq 1 2 3), (.w64, .slli32 1 2 3), (.w32, .slli64 1 2 3), (.w32, .ld 1 2 0),
    (.w64, .cAddi4spn 0 0), (.w64, .cLw 1 2 2), (.w64, .cLd 1 2 4), (.w64, .cAddi 0 1), (.w64, .cJal 32), (.w32, .cAddiw 1 1),
    (.w64, .cAddi16sp 8), (.w64, .cLui 2 4096), (.w64, .cLwsp 0 4), (.w64, .cLdsp 0 8), (.w64, .cJr 0), (.w64, .cMv 1 0),
    (.w64, .cJalr 0), (.w64, .cAdd 1 0), (.w32, .illegalCAddiwRd0)] : List (Xlen × Instr)).all (fun r => !r.2.wf r.1) = true := by
  decide +kernel

/-- 95_test_vectors.md V1 to V3, V6, V7. -/
theorem test_pattern_matcher : (Instr.decl (.add 0 0 0)).isMatch 0x00510133 ∧ ¬ (Instr.decl (.add 0 0 0)).isMatch 0x40510133 ∧
    ¬ (Instr.decl (.add 0 0 0)).isMatch 0x00510132 ∧ (Instr.decl (.add 0 0 0)).fixedBits = 17 ∧ (Instr.decl .ecall).fixedBits = 32 ∧
    (Instr.decl .cEbreak).fixedBits = 16 ∧ (Instr.decl .fence).fixedBits = 10 ∧
    (Instr.decl (.cAdd 1 1)).overlaps (Instr.decl (.cJalr 1)) = true ∧
    (Instr.decl (.cAdd 1 1)).overlaps (Instr.decl (.cMv 1 1)) = false := by decide +kernel

/-! ## Builder and traversal -/

/-- The declarations A, B, C, B2, B3 of 95_test_vectors.md V20 and V21. -/
def tA : Declaration := toy 1 2 0x7 0x1 []
def tB : Declaration := toy 2 2 0xF 0x9 []
def tC : Declaration := toy 3 2 0x7 0x2 []
def tB2 : Declaration := toy 4 2 0x17 0x11 []
def tB3 : Declaration := toy 5 2 0x1F 0x19 []

/-- The tree of V20. -/
def treeABC : Tree :=
  { root := 1, arena := [.leaf .illegal, .switch 0 3 [0, 2, 5, 0, 0, 0, 0, 0], .branch 3 3 4, .leaf (.decl tA), .leaf (.decl tB),
      .leaf (.decl tC)] }

/-- V20: the tree, entry by entry, and its decisions. -/
theorem test_build_toy : build [tA, tB, tC] = .ok treeABC ∧ decideTree treeABC 0x0001 = .decl tA ∧ decideTree treeABC 0x0009 = .decl tB ∧
    decideTree treeABC 0x0002 = .decl tC ∧ decideTree treeABC 0x0003 = .illegal ∧ decideTree treeABC 0xFFF9 = .decl tB ∧
    decideTree treeABC 0x12340011 = .decl tA := by decide +kernel

/-- V21: an ambiguous set is fatal and names B and B2; B3 resolves it. -/
theorem test_build_ambiguous : build [tA, tB, tC, tB2] = .error (.ambiguousDeclarations [.other 2, .other 4]) ∧
    (match build [tA, tB, tC, tB2, tB3] with
      | .ok t => decide (decideTree t 0x19 = .decl tB3 ∧ decideTree t 0x09 = .decl tB ∧ decideTree t 0x11 = .decl tB2)
      | .error _ => false) = true := by decide +kernel

/-- The set of V22: two widths and both markers. -/
def tG : Declaration := toy 6 4 0x7F 0x33 [fieldOf [⟨11, 7, 0⟩], fieldOf [⟨31, 12, 0⟩]]
def tGF1 : Declaration := toy 7 4 0x707F 0x1033 [fieldOf [⟨11, 7, 0⟩]]
def tGEven : Declaration := { toy 8 4 0xFF 0x33 [] with kind := .illegal }
def tHint : Declaration := { toy 9 4 0x7F 0x0F [] with kind := .nop }
def tH : Declaration := toy 10 2 0xE003 0x1 [⟨.other 0, [⟨12, 2, 0⟩], true⟩]

/-- V22: 18 arena entries, and its decisions. -/
theorem test_build_markers :
    (match build [tG, tGF1, tGEven, tHint, tH] with
      | .ok t => decide (t.arena.length = 18 ∧ decideTree t 0xB3 = .decl tG ∧ decideTree t 0x33 = .illegal ∧ decideTree t 0x10B3 = .decl tGF1 ∧
          decideTree t 0x1033 = .decl tGF1 ∧ decideTree t 0x2033 = .illegal ∧ decideTree t 0xABCDE00F = .nop tHint ∧
          decideTree t 0x1FFD = .decl tH ∧ decideTree t 0x2001 = .illegal ∧ apply tH 0x1FFD = [-1])
      | .error _ => false) = true := by decide +kernel

/-- V24 and V25: sizes of the reference trees and the root of the second. -/
theorem test_reference_trees : refTree32.arena.length = 296 ∧ refTree64.arena.length = 355 ∧
    refTree64.arena[1]? = some (.switch 0 2 [2, 23, 141, 207]) := by decide +kernel

/-- V100: the 109 mnemonics with a handler, each the mnemonic of a REGULAR declaration. -/
theorem test_refMnemonics : refMnemonics.length = 109 ∧
    refDecls.all (fun d => (d.kind == .regular) == refMnemonics.contains d.mnemonic) = true ∧ refDecls.length = 123 := by
  decide +kernel

/-! ## Results of instructions -/

/-- R331 to R340 on x5 = -3 and x6 = 0x8000000100000047. -/
theorem test_register_results : ([
    (.w64, .add 7 5 6, 0x8000000100000044), (.w64, .sub 7 5 6, 0x7FFFFFFEFFFFFFB6), (.w64, .sll 7 5 6, 0xFFFFFFFFFFFFFE80),
    (.w64, .slt 7 5 6, 0x0), (.w64, .sltu 7 5 6, 0x0), (.w64, .xor 7 5 6, 0x7FFFFFFEFFFFFFBA),
    (.w64, .srl 7 5 6, 0x1FFFFFFFFFFFFFF), (.w64, .sra 7 5 6, 0xFFFFFFFFFFFFFFFF), (.w64, .or 7 5 6, 0xFFFFFFFFFFFFFFFF),
    (.w64, .and 7 5 6, 0x8000000100000045), (.w32, .add 7 5 6, 0x44), (.w32, .slt 7 5 6, 0x1), (.w32, .srl 7 5 6, 0x1FFFFFF),
    (.w32, .sra 7 5 6, 0xFFFFFFFFFFFFFFFF)] :
    List (Xlen × Instr × Word)).all gives = true := by decide +kernel

/-- R301, R302, R319 to R330 on the same registers, pc0 = 0x1000. -/
theorem test_immediate_results : ([
    (.w64, .addi 7 5 (-2), 0xFFFFFFFFFFFFFFFB), (.w64, .slti 7 5 (-2), 0x1), (.w64, .sltiu 7 5 (-2), 0x1),
    (.w64, .xori 7 5 (-2), 0x3), (.w64, .ori 7 5 (-2), 0xFFFFFFFFFFFFFFFF), (.w64, .andi 7 5 (-2), 0xFFFFFFFFFFFFFFFC),
    (.w64, .sltiu 7 6 (-2), 0x1), (.w32, .addi 7 5 (-2), 0xFFFFFFFFFFFFFFFB), (.w64, .slli64 7 5 33, 0xFFFFFFFA00000000),
    (.w32, .slli32 7 5 3, 0xFFFFFFFFFFFFFFE8), (.w64, .srli64 7 5 33, 0x7FFFFFFF), (.w32, .srli32 7 5 3, 0x1FFFFFFF),
    (.w64, .srai64 7 5 33, 0xFFFFFFFFFFFFFFFF), (.w32, .srai32 7 5 3, 0xFFFFFFFFFFFFFFFF),
    (.w64, .lui 7 0x80000000, 0xFFFFFFFF80000000), (.w64, .auipc 7 0xFFFFF000, 0x0)] :
    List (Xlen × Instr × Word)).all gives = true := by decide +kernel

/-- R347 to R355 and R419 to R423 on the same registers. -/
theorem test_word_results : ([
    (.w64, .addiw 7 5 (-2), 0xFFFFFFFFFFFFFFFB), (.w64, .slliw 7 5 3, 0xFFFFFFFFFFFFFFE8), (.w64, .srliw 7 5 3, 0x1FFFFFFF),
    (.w64, .sraiw 7 5 3, 0xFFFFFFFFFFFFFFFF), (.w64, .addw 7 5 6, 0x44), (.w64, .subw 7 5 6, 0xFFFFFFFFFFFFFFB6),
    (.w64, .sllw 7 5 6, 0xFFFFFFFFFFFFFE80), (.w64, .srlw 7 5 6, 0x1FFFFFF), (.w64, .sraw 7 5 6, 0xFFFFFFFFFFFFFFFF),
    (.w64, .mulw 7 5 6, 0xFFFFFFFFFFFFFF2B), (.w64, .divw 7 5 6, 0x0), (.w64, .divuw 7 5 6, 0x39B0AD1),
    (.w64, .remw 7 5 6, 0xFFFFFFFFFFFFFFFD), (.w64, .remuw 7 5 6, 0x6)] :
    List (Xlen × Instr × Word)).all gives = true := by decide +kernel

/-- R411 to R418 on the same registers; a zero divisor (95_test_vectors.md P5). -/
theorem test_multiply_divide_results : ([
    (.w64, .mul 7 5 6, 0x7FFFFFFCFFFFFF2B), (.w64, .mulh 7 5 6, 0x1), (.w64, .mulhsu 7 5 6, 0xFFFFFFFFFFFFFFFE),
    (.w64, .mulhu 7 5 6, 0x8000000100000045), (.w64, .div 7 5 6, 0x0), (.w64, .divu 7 5 6, 0x1),
    (.w64, .rem 7 5 6, 0xFFFFFFFFFFFFFFFD), (.w64, .remu 7 5 6, 0x7FFFFFFEFFFFFFB6), (.w32, .mulh 7 5 6, 0xFFFFFFFFFFFFFFFF),
    (.w32, .mulhsu 7 5 6, 0xFFFFFFFFFFFFFFFF), (.w32, .mulhu 7 5 6, 0x46), (.w64, .div 7 5 0, 0xFFFFFFFFFFFFFFFF),
    (.w64, .divu 7 5 0, 0xFFFFFFFFFFFFFFFF), (.w64, .rem 7 5 0, 0xFFFFFFFFFFFFFFFD), (.w64, .remu 7 5 0, 0xFFFFFFFFFFFFFFFD)] :
    List (Xlen × Instr × Word)).all gives = true := by decide +kernel

/-- The 2-byte register forms of 48_reference_rv_compressed.md on x8 = -3, x9 = 0x8000000100000047 and sp = 0x8000. -/
theorem test_compressed_results : ([
    (.w64, .cAddi4spn 0 12, 0x800C), (.w64, .cAddi 8 (-2), 0xFFFFFFFFFFFFFFFB), (.w64, .cAddiw 8 (-2), 0xFFFFFFFFFFFFFFFB),
    (.w64, .cLi 8 (-32), 0xFFFFFFFFFFFFFFE0), (.w64, .cLui 8 (-4096), 0xFFFFFFFFFFFFF000), (.w64, .cSrli64 0 33, 0x7FFFFFFF),
    (.w64, .cSrai64 0 33, 0xFFFFFFFFFFFFFFFF), (.w32, .cSrli32 0 3, 0x1FFFFFFF), (.w32, .cSrai32 0 3, 0xFFFFFFFFFFFFFFFF),
    (.w64, .cAndi 0 (-2), 0xFFFFFFFFFFFFFFFC), (.w64, .cSub 0 1, 0x7FFFFFFEFFFFFFB6), (.w64, .cXor 0 1, 0x7FFFFFFEFFFFFFBA),
    (.w64, .cOr 0 1, 0xFFFFFFFFFFFFFFFF), (.w64, .cAnd 0 1, 0x8000000100000045), (.w64, .cSubw 0 1, 0xFFFFFFFFFFFFFFB6),
    (.w64, .cAddw 0 1, 0x44), (.w32, .cSlli32 8 3, 0xFFFFFFFFFFFFFFE8), (.w64, .cSlli64 8 33, 0xFFFFFFFA00000000),
    (.w64, .cMv 8 9, 0x8000000100000047), (.w64, .cAdd 8 9, 0x8000000100000044)] :
    List (Xlen × Instr × Word)).all gives8 = true := by decide +kernel

/-- R420 to R423 by zero: a free value, sign-extended, whatever it is; everything else as spec/ says (log 23). -/
theorem test_divw_by_zero : (∃ t, exec (.divw 7 5 0) (machine .w64 operands) = .next t ∧
    readX t.cpu 7 = (Config.divwByZero 0xFFFFFFFD).signExtend 64 ∧ t.cpu.pc = 0x1004) := ⟨_, rfl, rfl, rfl⟩

/-- A write to x0 is discarded (95_test_vectors.md section 4). -/
theorem test_x0_discards : nextWith (exec (.addi 0 5 1) (machine .w64 operands)) (fun t => readX t.cpu 0 == 0 && t.cpu.pc == 0x1004)
    = true := by decide +kernel

/-- The test machine in a mode, with CSR words. -/
def inMode (p : Priv) (l : List (BitVec 12 × Word)) (s : State) : State :=
  { s with cpu := l.foldl (fun c r => csrPut c r.1 r.2) { s.cpu with priv := p } }

/-- Data for the load tests: 80 7F FE FF 01 02 03 84 at 0x8000. -/
def dataMachine (x : Xlen) : State :=
  let s := machine x operands
  { s with cpu := bytes 0x8000 [0x80, 0x7F, 0xFE, 0xFF, 0x01, 0x02, 0x03, 0x84] s.cpu }

/-- The same machine with handlers that complete a misaligned access (log 9). -/
def completing (s : State) : State := { s with cpu := { s.cpu with align := .completes } }

/-- R311 to R315, R344, R345: little-endian, sign- or zero-extended. -/
theorem test_load_results : ([
    (.lb 7 2 0, 0xFFFFFFFFFFFFFF80), (.lbu 7 2 0, 0x80), (.lh 7 2 2, 0xFFFFFFFFFFFFFFFE), (.lhu 7 2 2, 0xFFFE),
    (.lw 7 2 0, 0xFFFFFFFFFFFE7F80), (.lwu 7 2 0, 0xFFFE7F80), (.ld 7 2 0, 0x84030201FFFE7F80)] :
    List (Instr × Word)).all (fun r => nextWith (exec r.1 (dataMachine .w64)) (fun t => readX t.cpu 7 == r.2)) = true := by
  decide +kernel

/-- R453, R454, R484, R486: the 2-byte loads, from x9 = 0x8000 and from sp. -/
theorem test_compressed_load_results : ([
    (.cLw 0 1 4, 0xFFFFFFFF84030201), (.cLd 0 1 0, 0x84030201FFFE7F80), (.cLwsp 8 4, 0xFFFFFFFF84030201),
    (.cLdsp 8 0, 0x84030201FFFE7F80)] : List (Instr × Word)).all (fun r =>
      nextWith (exec r.1 { dataMachine .w64 with cpu := writeX (dataMachine .w64).cpu 9 0x8000 }) (fun t => readX t.cpu 8 == r.2))
    = true := by decide +kernel

/-- The test machine of the stores. -/
def storeMachine : State := machine .w64 [(2, 0x8000), (9, 0x1122334455667788), (8, 0x8000)]

/-- The memory from 0x8000 up after a store. -/
def storedIn (s : State) (i : Instr) : List Byte :=
  match exec i s with
  | .next t => [0x8000, 0x8001, 0x8002, 0x8003, 0x8004, 0x8005, 0x8006, 0x8007, 0x8008].map (byteAt t.cpu)
  | .fault _ => []
  | .refused _ => []

def stored : Instr → List Byte := storedIn storeMachine

/-- R316 to R318, R346, R455, R456, R493, R494: the stores. -/
theorem test_store_results : stored (.sb 2 9 0) = [0x88, 0, 0, 0, 0, 0, 0, 0, 0] ∧ stored (.sh 2 9 2) = [0, 0, 0x88, 0x77, 0, 0, 0, 0, 0] ∧
    stored (.sw 2 9 0) = [0x88, 0x77, 0x66, 0x55, 0, 0, 0, 0, 0] ∧
    stored (.sd 2 9 0) = [0x88, 0x77, 0x66, 0x55, 0x44, 0x33, 0x22, 0x11, 0] ∧
    stored (.cSw 0 1 4) = [0, 0, 0, 0, 0x88, 0x77, 0x66, 0x55, 0] ∧ stored (.cSwsp 9 4) = [0, 0, 0, 0, 0x88, 0x77, 0x66, 0x55, 0] ∧
    stored (.cSd 0 1 0) = [0x88, 0x77, 0x66, 0x55, 0x44, 0x33, 0x22, 0x11, 0] ∧
    stored (.cSdsp 9 0) = [0x88, 0x77, 0x66, 0x55, 0x44, 0x33, 0x22, 0x11, 0] := by decide +kernel

/-- R203: a misaligned access raises with its address, `pc` is back at the instruction and nothing is written. -/
theorem test_misaligned_raises : nextWith (exec (.lw 7 2 2) (inMode .machine [(0x305, 0x3000)] (dataMachine .w64))) (fun t =>
      t.outcome == some (.trapped .loadAddressMisaligned 0x8002) && t.cpu.pc == 0x3000 && csrGet t.cpu 0x341 == 0x1000 &&
        csrGet t.cpu 0x342 == 4 && csrGet t.cpu 0x343 == 0x8002 && readX t.cpu 7 == 0) = true ∧
    nextWith (exec (.sh 2 9 1) storeMachine) (fun t =>
      t.outcome == some (.trapped .storeAddressMisaligned 0x8001) && csrGet t.cpu 0x342 == 6 && t.cpu.mem == []) = true := by
  decide +kernel

/-- The other handlers that R203 allows: a misaligned access completes. -/
theorem test_misaligned_completes : nextWith (exec (.lw 7 2 1) (completing (dataMachine .w64)))
      (fun t => readX t.cpu 7 == 0x01FFFE7F && t.outcome == some .retired) = true ∧
    storedIn (completing storeMachine) (.sh 2 9 1) = [0, 0x88, 0x77, 0, 0, 0, 0, 0, 0] := by decide +kernel

/-- Storing zero over a byte removes its entry: memories that read alike are one list. -/
theorem test_store_zero_canonical : (match exec (.sd 2 0 0) (dataMachine .w64) with
    | .next t => decide (t.cpu.mem = [] ∧ Memory.wf (dataMachine .w64).cpu.mem = true)
    | _ => false) = true := by decide +kernel

/-- `pc` that an instruction at 0x1000 leaves, with x1 = 3 and x2 = -3. -/
def pcAfter (i : Instr) : Word :=
  match exec i (machine .w64 [(1, 3), (2, 0xFFFFFFFFFFFFFFFD), (9, 0)]) with
  | .next t => t.cpu.pc
  | .fault _ => 0
  | .refused _ => 0

/-- R305 to R310, R479, R480: taken and not taken. -/
theorem test_branches : [pcAfter (.beq 1 1 (-4)), pcAfter (.beq 1 2 (-4)), pcAfter (.bne 1 2 16), pcAfter (.blt 2 1 16), pcAfter (.blt 1 2 16),
      pcAfter (.bge 1 2 16), pcAfter (.bltu 1 2 16), pcAfter (.bltu 2 1 16), pcAfter (.bgeu 2 1 16), pcAfter (.cBeqz 1 8),
      pcAfter (.cBnez 1 8)] =
    [0xFFC, 0x1004, 0x1010, 0x1010, 0x1004, 0x1010, 0x1010, 0x1004, 0x1010, 0x1008, 0x1002] := by decide +kernel

/-- R303, R304, R459, R478, R488, R491: targets, bit 0 cleared, and links; JALR with rd = rs1 reads first. -/
theorem test_jumps : [pcAfter (.jal 1 2048), pcAfter (.jalr 1 1 (-2)), pcAfter (.cJ (-2)), pcAfter (.cJr 1), pcAfter (.cJalr 1)] =
      [0x1800, 0, 0xFFE, 2, 2] ∧
    nextWith (exec (.jalr 1 1 8) (machine .w64 [(1, 0x2001)])) (fun t => t.cpu.pc == 0x2008 && readX t.cpu 1 == 0x1004) = true ∧
    nextWith (exec (.cJal 96) (machine .w32 [])) (fun t => t.cpu.pc == 0x1060 && readX t.cpu 1 == 0x1002) = true := by decide +kernel

/-- 48_reference_rv_compressed.md: the sp-relative sum. -/
theorem test_cAddi16sp : nextWith (exec (.cAddi16sp (-64)) (machine .w64 operands)) (fun t => readX t.cpu 2 == 0x7FC0) = true := by
  decide +kernel

/-! ## System instructions and traps -/

/-- R401 to R406: the value read, and the value left in `mtvec`. -/
def csrTest (i : Instr) : Option (Word × Word) :=
  match exec i (inMode .machine [(0x305, 0xF0)] (machine .w64 [(1, 0x3C)])) with
  | .next t => some (readX t.cpu 7, csrGet t.cpu 0x305)
  | .fault _ => none
  | .refused _ => none

theorem test_csr_instructions : [csrTest (.csrrw 7 1 0x305), csrTest (.csrrs 7 1 0x305), csrTest (.csrrc 7 1 0x305),
      csrTest (.csrrwi 7 31 0x305), csrTest (.csrrsi 7 15 0x305), csrTest (.csrrci 7 16 0x305), csrTest (.csrrs 7 0 0x305)] =
    [some (0xF0, 0x3C), some (0xF0, 0xFC), some (0xF0, 0xC0), some (0xF0, 0x1F), some (0xF0, 0xFF), some (0xF0, 0xE0),
      some (0xF0, 0xF0)] := by decide +kernel

/-- R401's inaccessible CSR, here a machine CSR from U and a write to a read-only number: an illegal-instruction trap (log 11). -/
theorem test_csr_refused : nextWith (exec (.csrrw 7 1 0x305) (inMode .user [] (machine .w64 [])))
      (fun t => t.outcome == some (.trapped .illegalInstruction 0x305093F3) && t.cpu.pc == 0x1000) = true ∧
    nextWith (exec (.csrrw 7 1 0xC00) (inMode .machine [] (machine .w64 [])))
      (fun t => t.outcome == some (.trapped .illegalInstruction 0xC00093F3)) = true ∧
    nextWith (exec (.csrrs 7 0 0xC00) (inMode .user [] (machine .w64 []))) (fun t => t.outcome == some .retired) = true := by
  decide +kernel

/-- R342 and R203 in the three modes; R343; a marker row. -/
theorem test_environment_calls :
    [.user, .supervisor, .machine].map (fun p => match exec .ecall (inMode p [] (machine .w64 [])) with
      | .next t => t.outcome
      | .fault _ => none
      | .refused _ => none) = [some (.trapped .envCallU 0), some (.trapped .envCallS 0), some (.trapped .envCallM 0)] ∧
    nextWith (exec .ebreak (machine .w64 [])) (fun t => t.outcome == some (.trapped .breakpoint 0x1000)) = true ∧
    nextWith (exec .illegalCLuiZ (machine .w64 [])) (fun t => t.outcome == some (.trapped .illegalInstruction 0x1234)) = true := by
  decide +kernel

/-- 95_test_vectors.md section 4, the mock `Deliver`: `mepc`, `mcause`, `mtval`, and `pc` at `mtvec`; the mode left is in MPP. -/
theorem test_trap_entry : nextWith (exec .ecall (inMode .user [(0x305, 0x2000), (0x300, 0x8)] (machine .w64 []))) (fun t =>
      t.cpu.pc == 0x2000 && csrGet t.cpu 0x341 == 0x1000 && csrGet t.cpu 0x342 == 8 && csrGet t.cpu 0x343 == 0 &&
        csrGet t.cpu 0x300 == 0x80 && t.cpu.priv == .machine) = true ∧
    nextWith (exec .ebreak (inMode .supervisor [(0x105, 0x3000), (0x302, 0x8), (0x300, 0x2)] (machine .w64 []))) (fun t =>
      t.cpu.pc == 0x3000 && csrGet t.cpu 0x141 == 0x1000 && csrGet t.cpu 0x142 == 3 && csrGet t.cpu 0x143 == 0x1000 &&
        csrGet t.cpu 0x300 == 0x120 && t.cpu.priv == .supervisor) = true := by decide +kernel

/-- R407, R408: the returns. -/
theorem test_returns : nextWith (exec .mret (inMode .machine [(0x341, 0x4000), (0x300, 0x880)] (machine .w64 []))) (fun t =>
      t.cpu.pc == 0x4000 && t.cpu.priv == .supervisor && csrGet t.cpu 0x300 == 0x88) = true ∧
    nextWith (exec .sret (inMode .supervisor [(0x141, 0x5000), (0x300, 0x20)] (machine .w64 []))) (fun t =>
      t.cpu.pc == 0x5000 && t.cpu.priv == .user && csrGet t.cpu 0x300 == 0x22) = true ∧
    nextWith (exec .mret (inMode .user [] (machine .w64 []))) (fun t => t.outcome == some (.trapped .illegalInstruction 0x30200073))
      = true := by decide +kernel

/-! ## Passes of 95_test_vectors.md section 3.8 -/

/-- `pc`, outcome and calls of one step. -/
def view (o : Result) : Option (Word × Option PassOutcome × List Call) :=
  match o with
  | .next t => some (t.cpu.pc, t.outcome, t.calls)
  | .fault _ => none
  | .refused _ => none

/-- V70 and V71. -/
theorem test_pass_seq : view (step (codeAt 0x1000 [0x33, 0x01, 0x51, 0x00] (machine .w64 []))) =
      some (0x1004, some .retired, [.translate 0x1000, .readHalf 0x1000, .readHalf 0x1002, .handler .add [2, 2, 5]]) ∧
    view (step (codeAt 0x1000 [0x85, 0x00] (machine .w64 []))) =
      some (0x1002, some .retired, [.translate 0x1000, .readHalf 0x1000, .handler .cAddi [1, 1]]) := by decide +kernel

/-- V72: BEQ x1, x2, -4, taken; V76: C.NOP calls no handler. -/
theorem test_pass_branch_and_nop : view (step (codeAt 0x1000 [0xE3, 0x8E, 0x20, 0xFE] (machine .w64 []))) =
      some (0xFFC, some .retired, [.translate 0x1000, .readHalf 0x1000, .readHalf 0x1002, .handler .beq [1, 2, -4, 0x1000]]) ∧
    view (step (codeAt 0x1000 [0x01, 0x00] (machine .w64 []))) = some (0x1002, some .retired, [.translate 0x1000, .readHalf 0x1000]) := by
  decide +kernel

/-- V77 and V78: at a page's end, across it and not. -/
theorem test_pass_page_crossing : view (step (codeAt 0x1FFE [0x33, 0x01, 0x51, 0x00] (machine .w64 []))) =
      some (0x2002, some .retired,
        [.translate 0x1FFE, .readHalf 0x1FFE, .translate 0x2000, .readHalf 0x2000, .handler .add [2, 2, 5]]) ∧
    view (step (codeAt 0x1FFC [0x33, 0x01, 0x51, 0x00] (machine .w64 []))) =
      some (0x2000, some .retired, [.translate 0x1FFC, .readHalf 0x1FFC, .readHalf 0x1FFE, .handler .add [2, 2, 5]]) := by
  decide +kernel

/-- V80 and V81: illegal opcodes of 2 and of 4 bytes. -/
theorem test_pass_illegal : view (step (codeAt 0x1000 [] (machine .w64 []))) =
      some (0x1000, some (.trapped .illegalInstruction 0), [.translate 0x1000, .readHalf 0x1000, .deliver .illegalInstruction 0]) ∧
    (view (step (codeAt 0x1000 [0x33, 0x01, 0x51, 0x04] (machine .w64 [])))).map (fun r => r.2.1) =
      some (some (.trapped .illegalInstruction 0x04510133)) := by decide +kernel

/-- Pages taken out of the map. -/
def without (l : List (Nat × FetchTag)) (s : State) : State := { s with cpu := { s.cpu with unmapped := l } }

/-- V82 and V83: fetch faults of the first and of the second half. -/
theorem test_pass_fetch_faults : view (step (without [(1, .page)] (codeAt 0x1000 [] (machine .w64 [])))) =
      some (0x1000, some (.trapped (.instructionFetchFault .page) 0x1000),
        [.translate 0x1000, .deliver (.instructionFetchFault .page) 0x1000]) ∧
    view (step (without [(2, .access)] (codeAt 0x1FFE [0x33, 0x01] (machine .w64 [])))) =
      some (0x1FFE, some (.trapped (.instructionFetchFault .access) 0x2000),
        [.translate 0x1FFE, .readHalf 0x1FFE, .translate 0x2000, .deliver (.instructionFetchFault .access) 0x2000]) := by
  decide +kernel

/-- V86: C.EBREAK at 0x1002; V87 to V89: breakpoints. -/
theorem test_pass_breakpoints : (view (step (codeAt 0x1002 [0x02, 0x90] (machine .w64 [])))).map (fun r => (r.1, r.2.1)) =
      some (0x1002, some (.trapped .breakpoint 0x1002)) ∧
    view (step { codeAt 0x1000 [0x33, 0x01, 0x51, 0x00] (machine .w64 []) with bp := some [0x1000] }) =
      some (0x1000, some (.breakpointHit 0x1000), []) ∧
    (view (step { codeAt 0x1000 [0x33, 0x01, 0x51, 0x00] (machine .w64 []) with bp := some [0x1002] })).map (fun r => r.1) = some 0x1004 ∧
    view (step (without [(1, .page)] { codeAt 0x1000 [] (machine .w64 []) with bp := some [0x1000] })) =
      some (0x1000, some (.breakpointHit 0x1000), []) := by decide +kernel

/-- V93: the advance wraps; an odd `pc` is refused (U1). -/
theorem test_pass_wraps : (view (step (codeAt 0xFFFFFFFFFFFFFFFE [0x85, 0x00] (machine .w64 [])))).map (fun r => r.1) = some 0 ∧
    view (step (codeAt 0x1001 [] (machine .w64 []))) = none := by decide +kernel

/-- V79: appended parameters of JAL, JALR, AUIPC and, under 32, C.JAL. -/
theorem test_appended : [([0xEF, 0x00, 0x10, 0x00], Xlen.w64), ([0xE7, 0x80, 0xC2, 0xFF], .w64), ([0x97, 0x51, 0x34, 0x12], .w64),
      ([0x85, 0x20], .w32)].map (fun r => (view (step (codeAt 0x1000 r.1 (machine r.2 [])))).bind (fun v => v.2.2.getLast?)) =
    [some (.handler .jal [1, 2048, 4, 0x1000]), some (.handler .jalr [1, 5, -4, 4, 0x1000]),
      some (.handler .auipc [3, 305418240, 0x1000]), some (.handler .cJal [96, 2, 0x1000])] := by decide +kernel

/-- Reference collaborators but for a handler that writes `pc` and then answers as it is told. -/
def stray (pc : Word) (answer : Cpu → Answer) : Collaborators :=
  { refCollaborators with handler := fun _ _ c => .returns (answer { c with pc := pc }), deliver := fun _ _ c => .returns c }

/-- Reference collaborators but for handlers and a `Deliver` that do not return as they should (U6). -/
def wayward (h : Reply Answer) (d : Reply Cpu) : Collaborators :=
  { refCollaborators with handler := fun _ _ _ => h, deliver := fun _ _ _ => d }

/-- R238 (a), U6: a handler, and a `Deliver`, that never returns, or issues a host command. -/
theorem test_pass_hangs : (match pass (wayward .hangs .hangs) (codeAt 0x1000 [0x33, 0x01, 0x51, 0x00] (machine .w64 [])),
        pass (wayward .hangs .hangs) (codeAt 0x1000 [] (machine .w64 [])),
        runWith (pass (wayward .hangs .hangs)) 3 (codeAt 0x1000 [0x01, 0x00] (machine .w64 [])) with
      | .fault a, .fault b, .fault c => decide (a = .stuck ∧ b = .stuck ∧ c = .stuck)
      | _, _, _ => false) = true ∧
    (match pass (wayward .commands .hangs) (codeAt 0x1000 [0x33, 0x01, 0x51, 0x00] (machine .w64 [])),
        pass (wayward .hangs .commands) (codeAt 0x1000 [] (machine .w64 [])) with
      | .refused a, .refused b => decide (a = .commandInPass ∧ b = .commandInPass)
      | _, _ => false) = true := by decide +kernel

/-- The passes that ended before a RUN went no further are kept (logs 33, 34): a C.NOP before a `Deliver` that hangs, a taken BEQ to an odd address. -/
theorem test_run_goes_no_further :
    [afterCommand .keep (pass (wayward .hangs .hangs)) (.run 3) (codeAt 0x1000 [0x01, 0x00] (machine .w64 [])),
      afterCommand .keep (pass (stray 0x2001 (.done true))) (.run 3) (codeAt 0x1000 [0x63] (machine .w64 []))].map
        (fun t => (t.cpu.pc, t.budget, t.phase)) =
    [(0x1002, 2, .execute), (0x2001, 2, .idle)] := by decide +kernel

/-- A binding that is not the reference one: the handler that is bound is called (R153), here SUB's for ADD. -/
theorem test_step_foreign_binding : nextWith (step { codeAt 0x1000 [0x33, 0x01, 0x51, 0x00] (machine .w64 [(2, 9), (5, 2)]) with
      bind := [⟨.add, .sub, false, false⟩] }) (fun t => readX t.cpu 2 == 7 && t.cpu.pc == 0x1004) = true := by decide +kernel

/-- V75, V84, V90: what a handler does to `pc` after TRAPBOUNDARY, before a raise, and in a SEQ instruction. -/
theorem test_pass_stray_pc :
    (view (pass (stray 0x80000100 (.done false)) (codeAt 0x1000 [0x73, 0, 0, 0] (machine .w64 [])))).map (fun r => r.1) =
      some 0x80000100 ∧
    (view (pass (stray 0xDEAD0000 (.raise .loadAccessFault 0x9000)) (codeAt 0x1000 [0x03, 0xA5, 0x05, 0x00] (machine .w64 [])))).map
      (fun r => (r.1, r.2.1)) = some (0x1000, some (.trapped .loadAccessFault 0x9000)) ∧
    (view (pass (stray 0x5000 (.done true)) (codeAt 0x1000 [0x33, 0x01, 0x51, 0x00] (machine .w64 [])))).map (fun r => r.1) =
      some 0x1004 := by decide +kernel

/-- V104: the same bytes under the two widths. -/
theorem test_pass_widths : nextWith (step (codeAt 0x1000 [0x85, 0x20] (machine .w64 [(1, 0x7FFFFFFF)])))
      (fun t => readX t.cpu 1 == 0xFFFFFFFF80000000 && t.cpu.pc == 0x1002) = true ∧
    nextWith (step (codeAt 0x1002 [0x85, 0x20] (machine .w32 []))) (fun t => readX t.cpu 1 == 0x1004 && t.cpu.pc == 0x1062) = true := by
  decide +kernel

/-- P4, pass 1: a load from an unmapped page traps to `mtvec` with the address, and nothing is loaded. -/
theorem test_pass_load_fault : nextWith (step (without [(9, .access)] (inMode .machine [(0x305, 0x3000)]
      (codeAt 0x1000 [0x03, 0xA5, 0x05, 0x00] (machine .w64 [(11, 0x9000)])))))
    (fun t => t.cpu.pc == 0x3000 && csrGet t.cpu 0x341 == 0x1000 && csrGet t.cpu 0x343 == 0x9000 && readX t.cpu 10 == 0 &&
      t.outcome == some (.trapped .loadAccessFault 0x9000)) = true := by decide +kernel

/-- The host's placement: the next step runs the word, from reset too. -/
theorem test_withFetchWord : (view (step (State.reset.withFetchWord 32 0x00510133))).map (fun r => r.2.1) = some (some .retired) ∧
    (view (step (State.reset.withFetchWord 16 0x9002))).map (fun r => r.2.1) = some (some (.trapped .breakpoint 0x1000)) := by
  decide +kernel

/-! ## Host operations, 95_test_vectors.md section 3.9 -/

/-- ECALL's declaration and the zero word's marker: a small conforming set. -/
def smallSet : List Declaration := [Instr.decl .ecall, Instr.decl .illegalCAddi4spnZ, Instr.decl (.cAddi4spn 0 4)]

/-- V100 to V103 on a small set: Ready; a missing handler; markers need none; without the marker the set does not conform. -/
theorem test_startup : (match startup Config.xlenReset smallSet [refBinding .ecall, refBinding .cAddi4spn, refBinding .add] (unbuilt Cpu.reset) with
      | .next t => decide (t.phase = .idle ∧ t.bind = [refBinding .ecall, refBinding .cAddi4spn])
      | _ => false) = true ∧
    (match startup Config.xlenReset smallSet [refBinding .ecall] (unbuilt Cpu.reset) with
      | .fault f => decide (f = .missingHandler .cAddi4spn)
      | _ => false) = true ∧
    (match startup Config.xlenReset [Instr.decl .ecall, Instr.decl (.cAddi4spn 0 4)] [refBinding .ecall, refBinding .cAddi4spn]
        (unbuilt Cpu.reset) with
      | .fault f => decide (f = .nonConforming)
      | _ => false) = true := by decide +kernel

/-- D13: one mnemonic of class SEQ under RV32 and JUMP under RV64; each width's set by itself is in order. -/
def crossWidthSet : List Declaration :=
  smallSet ++ [{ Instr.decl (.cAddi4spn 0 4) with mnemonic := .other 11, pattern := 0x2000, variant := .rv32 },
    { Instr.decl (.cAddi4spn 0 4) with mnemonic := .other 11, pattern := 0x2000, variant := .rv64, pcclass := .jump }]

/-- R84 and R239 (d) across the two widths: STARTUP is fatal, and the block is FATAL for good. -/
theorem test_startup_cross_width : (build (variantDecls .w32 crossWidthSet)).isOk = true ∧ (build (variantDecls .w64 crossWidthSet)).isOk = true ∧
    declSetWf crossWidthSet = false ∧ declSetWf refDecls = true ∧
    (match startup .keep crossWidthSet [refBinding .ecall, refBinding .cAddi4spn, ⟨.other 11, .other 11, false, false⟩] (unbuilt Cpu.reset) with
      | .fault f => decide (f = .malformedSet)
      | _ => false) = true ∧
    (afterStartup .keep crossWidthSet [] (unbuilt Cpu.reset)).phase = .fatal := by decide +kernel

/-- V105, V110, V115. -/
theorem test_commands : (match command .keep step (.setXlen 16) State.reset, command .keep step (.setXlen 128) State.reset with
      | .refused a, .refused b => decide (a = .badWidth 16 ∧ b = .badWidth 128)
      | _, _ => false) = true ∧
    (match command .keep step (.run 0) State.reset with
      | .next (t, a) => decide (a = .ran .completed ∧ t.cpu = State.reset.cpu)
      | _ => false) = true ∧
    (match command .keep step (.run 1) (unbuilt Cpu.reset), command .keep step (.startup [] []) State.reset with
      | .refused a, .refused b => decide (a = .notIdle ∧ b = .notUnbuilt)
      | _, _ => false) = true := by decide +kernel

/-- V106 with two passes, and V107 shortened: a trapped pass counts; RUN stops at a breakpoint with the budget dropped. -/
theorem test_run : (match run 2 (codeAt 0x1000 [] (machine .w64 [])) with
      | .next (t, a) => decide (a = .completed ∧ t.cpu.pc = 0x1000 ∧ t.outcome = some (.trapped .illegalInstruction 0))
      | _ => false) = true ∧
    (match run 10 { codeAt 0x1000 [0x85, 0x00, 0x85, 0x00] (machine .w64 []) with bp := some [0x1002] } with
      | .next (t, a) => decide (a = .stopped 0x1002 ∧ readX t.cpu 1 = 1 ∧ t.budget = 0)
      | _ => false) = true := by decide +kernel

/-! ## Witnesses: for every statement with hypotheses, inputs that meet them, clause by clause -/

/-- A machine about to run ADD x2, x2, x5 at 0x1000. -/
def addMachine : State := codeAt 0x1000 [0x33, 0x01, 0x51, 0x00] (machine .w64 [])

/-- The same, across a page boundary. -/
def crossMachine : State := codeAt 0x1FFE [0x33, 0x01, 0x51, 0x00] (machine .w64 [])

/-- In EXECUTE, with a declaration latched. -/
def latched (i : Instr) (args : List Word) : State :=
  { addMachine with phase := .execute, lat := { addMachine.lat with res := .decl i.decl, args := args, opcode := encode i } }

theorem witness_MostFixedBitsWins : ¬ Ambiguous [tA, tB] ∧ matchSet [tA, tB] 0x3 = [] ∧ matchSet [tA, tB] 0x9 = [tA, tB] ∧
    tA.fixedBits ≤ tB.fixedBits := by
  refine ⟨?_, by decide +kernel, by decide +kernel, by decide +kernel⟩
  rintro ⟨w, d1, h1, d2, h2, hne, heq, -⟩
  have m1 := (List.mem_filter.mp h1).1
  have m2 := (List.mem_filter.mp h2).1
  have hb : tA.fixedBits ≠ tB.fixedBits := by decide +kernel
  simp only [List.mem_cons, List.not_mem_nil, or_false] at m1 m2
  rcases m1 with rfl | rfl <;> rcases m2 with rfl | rfl <;> simp_all

theorem witness_BuiltTreeDecidesAsSpecified : 0 < 5 ∧ buildWith 5 [tA, tB, tC] = .ok treeABC ∧ (buildWith 1 [tA, tB, tC]).isOk = true := by
  decide +kernel

theorem witness_ExtractGathersTheSegments : (Instr.decl (.beq 0 0 0)).wf = true ∧ Fld.immB ∈ (Instr.decl (.beq 0 0 0)).fields ∧
    Fld.immB.signed = true ∧ Fld.rs1 ∈ (Instr.decl (.beq 0 0 0)).fields ∧ Fld.rs1.signed = false := by decide +kernel

/-- In range, and at the ends; with V67's values: a field too large, too small, too wide, and not a multiple; too few values. -/
theorem witness_ApplyRecoversEncodedValues : (Instr.decl (.beq 0 0 0)).wf = true ∧
    valuesInRange (Instr.decl (.beq 0 0 0)) [1, 2, -4] = true ∧ valuesInRange (Instr.decl (.beq 0 0 0)) [31, 31, -4096] = true ∧
    ([2048, -2049, 2047, -2048] : List Word).map (fun v => (encodeChecked (Instr.decl (.addi 0 0 0)) [1, 2, v]).isSome) =
      [false, false, true, true] ∧
    (Instr.decl (.addi 0 0 0)).fields[2]? = some Fld.immI ∧ Fld.immI.signed = true ∧ Fld.immI.nbits = 12 ∧
    (2 ^ (12 - 1) : Int) ≤ (2048 : Word).toInt ∧ (-2049 : Word).toInt < -(2 ^ (12 - 1) : Int) ∧
    Fld.rs1.signed = false ∧ 2 ^ Fld.rs1.nbits ≤ (32 : Word).toNat ∧ encodeChecked (Instr.decl (.addi 0 0 0)) [1, 32, 0] = none ∧
    Fld.immB.dstMask.getLsbD 0 = false ∧ 0 < Fld.immB.nbits ∧ encodeChecked (Instr.decl (.beq 0 0 0)) [1, 2, 3] = none ∧
    encodeChecked (Instr.decl (.addi 0 0 0)) [1, 2] = none := by
  decide +kernel

/-- A malformed declaration, an inconsistent set across the widths, an ambiguous set; and a set with none of these. -/
theorem witness_BuildFailsInExactlyThreeCases : (unbuilt Cpu.reset).phase = .unbuilt ∧
    (∃ d ∈ [toy 0 3 0x7F 0x33 []], d.wf = false) ∧
    (∃ d ∈ crossWidthSet, ∃ e ∈ crossWidthSet, d.mnemonic = e.mnemonic ∧ (d.pcclass ≠ e.pcclass ∨ d.kind ≠ e.kind)) ∧
    Ambiguous (variantDecls .w64 [tB, tB2]) ∧ nextWith (startup .keep smallSet [refBinding .ecall, refBinding .cAddi4spn] (unbuilt Cpu.reset))
      (fun t => t.phase == .idle) = true :=
  ⟨rfl, ⟨_, .head _, by decide +kernel⟩, by decide +kernel,
    ⟨0x19, tB, by decide +kernel, tB2, by decide +kernel, by decide +kernel, by decide +kernel, by decide +kernel⟩, by decide +kernel⟩

theorem witness_DecodeRecoversEveryWellFormedInstruction : (Instr.beq 1 2 4094).wf .w32 = true ∧ (Instr.cLd 7 7 248).wf .w64 = true := by
  decide +kernel

theorem witness_OddPcIsRefused : addMachine.phase = .idle ∧ isOdd (codeAt 0x1001 [] addMachine).cpu.pc = true ∧
    (unbuilt Cpu.reset).phase ≠ .idle := by decide +kernel

theorem witness_BreakpointStopsBeforeAnySideEffect : addMachine.phase = .idle ∧ isOdd addMachine.cpu.pc = false ∧
    breakpointAt (some [0x2000, 0x1000]) addMachine.cpu.pc = true := by decide +kernel

theorem witness_Starts : Starts addMachine ∧ Starts crossMachine := by unfold Starts; decide +kernel

theorem witness_FetchFaultAtEitherHalfTrapsAtPc :
    refCollaborators.translate (without [(1, .page)] addMachine).cpu addMachine.cpu.pc = .error .page ∧
    (let s := without [(2, .access)] crossMachine
     refCollaborators.translate s.cpu s.cpu.pc = .ok 1 ∧ isLong (refCollaborators.readHalf s.cpu 1 s.cpu.pc) = true ∧
      s.cpu.pc.toNat % refCollaborators.pageSize = refCollaborators.pageSize - 2 ∧
      refCollaborators.translate s.cpu (s.cpu.pc + 2) = .error .access) := by decide +kernel

theorem witness_FetchAssemblesTheOpcode :
    (let p : Word := 0x1000
     refCollaborators.translate addMachine.cpu p = .ok 1 ∧ (refCollaborators.readHalf addMachine.cpu 1 p).toNat % 4 = 3 ∧
      p.toNat % refCollaborators.pageSize ≠ refCollaborators.pageSize - 2 ∧
      (refCollaborators.readHalf (machine .w64 []).cpu 1 p).toNat % 4 ≠ 3) ∧
    (let p : Word := 0x1FFE
     refCollaborators.translate crossMachine.cpu p = .ok 1 ∧ (refCollaborators.readHalf crossMachine.cpu 1 p).toNat % 4 = 3 ∧
      p.toNat % refCollaborators.pageSize = refCollaborators.pageSize - 2 ∧
      refCollaborators.translate crossMachine.cpu (p + 2) = .ok 2) := by decide +kernel

/-- A declaration, an illegal opcode and a no-op. -/
theorem witness_WidthAtPassStartSelectsTheTree : nextWith (beforeExecute refCollaborators addMachine) (fun t => decide (t.phase = .execute)) = true ∧
    ∀ l ∈ ([[0x33, 0x01, 0x51, 0x00], [0, 0], [0x01, 0x00]] : List (List Byte)), let s := codeAt 0x1000 l (machine .w64 [])
      Starts s ∧ nextWith (continueAt .fetch (fetchStage refCollaborators) (startStage s)) (fun t => decide (t.phase = .decode)) = true ∧
        nextWith (pass refCollaborators s) (fun t => decide (t.lat.xlen0 = .w64)) = true := by unfold Starts; decide +kernel

theorem witness_IllegalOpcodeTrapsWithTheOpcode :
    decideTree (treeOf { addMachine with lat := Latches.reset } .w64) Latches.reset.opcode = .illegal := by decide +kernel

theorem witness_NopLeafOnlyAdvances : decideTree (treeOf addMachine .w64) 0x0001 = .nop (Instr.decl .cNop) := by decide +kernel

theorem witness_AppendedParametersFollowTheFlags :
    ([.jal 1 2048, .beq 1 2 16, .add 2 2 5] : List Instr).all (fun i =>
      decide ((latched i []).lat.res = .decl i.decl) && (bindOf (latched i []).bind i.decl.mnemonic).isSome) = true ∧
    bindOf [⟨.add, .add, true, false⟩] .add = some ⟨.add, .add, true, false⟩ := by decide +kernel

theorem witness_RaisingHandlerIsRolledBackThenDelivered : (latched .ecall []).phase = .execute ∧
    (latched .ecall []).lat.res = .decl (Instr.decl .ecall) ∧
    bindOf (latched .ecall []).bind .ecall = some (refBinding .ecall) ∧
    (stray 0xDEAD0000 (.raise .envCallM 0)).handler .ecall [] addMachine.cpu = .returns (.raise .envCallM 0 { addMachine.cpu with pc := 0xDEAD0000 }) := by
  decide +kernel

theorem witness_SequentialInstructionAdvances : (latched (.add 2 2 5) []).phase = .execute ∧
    bindOf (latched (.add 2 2 5) []).bind .add = some (refBinding .add) ∧ (Instr.decl (.add 2 2 5)).pcclass = .seq ∧
    refCollaborators.handler .add [2, 2, 5] addMachine.cpu = .returns (.done false addMachine.cpu) := by decide +kernel

theorem witness_TakenBranchKeepsItsTarget : bindOf refBind .beq = some (refBinding .beq) ∧ (Instr.decl (.beq 1 2 16)).pcclass = .branch ∧
    refCollaborators.handler .beq [1, 2, 16, 0x1000] addMachine.cpu = .returns (.done true { addMachine.cpu with pc := 0x1010 }) ∧
    refCollaborators.handler .bne [1, 2, 16, 0x1000] addMachine.cpu = .returns (.done false addMachine.cpu) := by decide +kernel

theorem witness_JumpAndTrapBoundaryKeepTheHandlersPc : (Instr.decl (.cJ 8)).pcclass = .jump ∧ (Instr.decl .mret).pcclass = .trapBoundary ∧
    bindOf refBind .cJ = some (refBinding .cJ) ∧ bindOf refBind .mret = some (refBinding .mret) ∧
    refCollaborators.handler .cJ [8, 0x1000] addMachine.cpu = .returns (.done false { addMachine.cpu with pc := 0x1008 }) ∧
    (stray 0x80000100 (.done false)).handler .mret [] addMachine.cpu = .returns (.done false { addMachine.cpu with pc := 0x80000100 }) := by
  decide +kernel

/-- For the statements whose hypothesis is a pass, or a step, that answers a next state. -/
theorem witness_pass : nextWith (pass refCollaborators addMachine) (fun t => t.calls.length == 4) = true ∧
    nextWith (pass refCollaborators (without [(1, .page)] addMachine)) (fun t => t.calls.length == 2) = true ∧
    nextWith (pass refCollaborators { addMachine with bp := some [0x1000] }) (fun t => t.calls.length == 0) = true := by decide +kernel

theorem witness_StartupLeavesAReadyBlock : nextWith (startup .keep smallSet [refBinding .ecall, refBinding .cAddi4spn] (unbuilt Cpu.reset))
    (fun t => decide (t.cpu.xlen = .w64)) = true := by decide +kernel

theorem witness_MissingHandlerIsFatalAtStartup : (unbuilt Cpu.reset).phase = .unbuilt ∧
    (∃ d ∈ smallSet, d.kind = .regular ∧ ∀ b ∈ [refBinding .add], b.mnemonic ≠ d.mnemonic) ∧
    build (variantDecls .w32 [tA, tB, tC, tB2]) = .error (.ambiguousDeclarations [.other 2, .other 4]) ∧
    (∃ d ∈ crossWidthSet, ∃ e ∈ crossWidthSet, d.mnemonic = e.mnemonic ∧ (d.pcclass ≠ e.pcclass ∨ d.kind ≠ e.kind)) := by decide +kernel

/-- A handler that never returns, one that issues a host command, and collaborators that all return; a RUN that hangs, or is refused,
in its first pass. -/
theorem witness_waywardCollaborators :
    ((latched (.add 2 2 5) []).phase = .execute ∧ (latched (.add 2 2 5) []).lat.res = .decl (Instr.decl (.add 2 2 5)) ∧
      bindOf (latched (.add 2 2 5) []).bind .add = some (refBinding .add) ∧
      (wayward .hangs .hangs).handler .add [] addMachine.cpu = .hangs ∧
      (wayward .commands .hangs).handler .add [] addMachine.cpu = .commands) ∧
    ((∀ h a u, (stray 0 (.done true)).handler h a u ≠ .hangs) ∧ ∀ k v u, (stray 0 (.done true)).deliver k v u ≠ .hangs) ∧
    ((match command .keep (pass (wayward .hangs .hangs)) (.run 1) addMachine with
      | .fault r => decide (r = .stuck)
      | _ => false) = true ∧
    (match pass (wayward .hangs .hangs) { addMachine with budget := 1 } with
      | .fault r => decide (r = .stuck)
      | _ => false) = true ∧
    (match pass refCollaborators { codeAt 0x1001 [] addMachine with budget := 1 } with
      | .refused r => decide (r = .oddPc)
      | _ => false) = true) :=
  ⟨by decide +kernel, ⟨nofun, nofun⟩, by decide +kernel⟩

theorem witness_phases : State.reset.phase = .idle ∧ State.reset.phase ≠ .unbuilt ∧ (unbuilt Cpu.reset).phase ≠ .idle ∧
    { unbuilt Cpu.reset with phase := Phase.fatal }.phase = .fatal ∧ (16 ≠ 32 ∧ 16 ≠ 64) ∧
    (∃ ds hs, Command.startup [] [] = .startup ds hs) ∧ ∀ ds hs, Command.features ≠ .startup ds hs :=
  ⟨rfl, by decide, by decide, rfl, by decide, ⟨_, _, rfl⟩, nofun⟩

theorem witness_RunCountsPassesAndStopsAtABreakpoint :
    (match runWith (pass refCollaborators) 1 addMachine with
      | .next (_, a) => decide (a = .completed)
      | _ => false) = true ∧
    nextWith (pass refCollaborators { addMachine with bp := some [0x1000], budget := 1 }) (fun t => t.outcome == some (.breakpointHit 0x1000))
      = true ∧
    nextWith (pass refCollaborators { addMachine with budget := 1 }) (fun t => t.outcome == some .retired) = true ∧
    nextWith (pass refCollaborators { machine .w64 [] with budget := 1 }) (fun t => t.outcome == some (.trapped .illegalInstruction 0))
      = true := by decide +kernel

/-- All of memory mapped: aligned at the top of the address space; where misaligned accesses complete, across its end, and up to
the first byte of an unmapped page. -/
theorem witness_LoadResults : Accessible (machine .w64 []) 0xFFFFFFFFFFFFFFF8 8 ∧ Accessible (machine .w64 []) 0x8003 1 ∧
    Accessible (completing (machine .w64 [])) 0xFFFFFFFFFFFFFFFC 8 ∧ Accessible (completing (machine .w32 [])) 0xFFFFFFFE 4 ∧
    Accessible (without [(9, .page)] (machine .w64 [])) 0x8FFC 4 ∧
    Accessible (without [(9, .page)] (completing (machine .w64 []))) 0x8FFD 2 := by
  unfold Accessible Mapped; decide +kernel

theorem witness_StoreResults : (dataMachine .w64).memWf = true ∧ Accessible (dataMachine .w64) 0x8000 8 ∧
    Accessible (completing (dataMachine .w32)) 0xFFFFFFFE 4 := by unfold Accessible Mapped; decide +kernel

/-- Misaligned at the ends of the range; and the first byte, or the last, in an unmapped page. -/
theorem witness_DataAccessFaultsLeaveNoTrace : Faults (machine .w64 []) 0x8001 2 .misaligned ∧
    Faults (without [(8, .page)] (machine .w64 [])) 0x8007 8 .misaligned ∧ Faults (machine .w32 []) 0xFFFFFFFE 4 .misaligned ∧
    Faults (without [(9, .page)] (machine .w64 [])) 0x9000 1 (.unmapped .page) ∧
    Faults (without [(9, .access)] (machine .w64 [])) 0x9008 8 (.unmapped .access) ∧
    Faults (without [(9, .access)] (completing (machine .w64 []))) 0x8FFF 2 (.unmapped .access) ∧
    Faults (without [(9, .page)] (completing (machine .w32 []))) 0x8FF9 8 (.unmapped .page) := by
  refine ⟨?_, ?_, ?_, ⟨?_, 0, ?_⟩, ⟨?_, 0, ?_⟩, ⟨?_, 1, ?_⟩, ⟨?_, 7, ?_⟩⟩ <;> (try unfold Faults) <;> (try unfold FirstFault) <;>
    decide +kernel

theorem witness_FencesWaitsAndNopsOnlyAdvance : (inMode .machine [] (machine .w64 [])).cpu.priv = .machine ∧
    (inMode .supervisor [] (machine .w64 [])).cpu.priv = .supervisor ∧
    (csrGet (inMode .supervisor [] (machine .w64 [])).cpu 0x300).getLsbD 20 = false := by decide +kernel

theorem witness_CsrAccessResults : (inMode .supervisor [(0x300, 0x22)] (machine .w64 [])).csrWf = true ∧
    Permitted (inMode .supervisor [] (machine .w64 [])) 0x100 true ∧ Permitted (inMode .machine [] (machine .w64 [])) 0xBFF true ∧
    Permitted (inMode .user [] (machine .w64 [])) 0xC00 ((0 : BitVec 5) != 0#5) ∧
    Permitted (inMode .user [] (machine .w64 [])) 0x003 ((1 : BitVec 5) != 0#5) := by unfold Permitted; decide +kernel

theorem witness_PrivilegedFormsTrapWhenNotPermitted : ¬ Permitted (inMode .supervisor [] (machine .w64 [])) 0x300 true ∧
    ¬ Permitted (inMode .machine [] (machine .w64 [])) 0xC00 ((1 : BitVec 5) != 0#5) ∧
    (inMode .supervisor [] (machine .w64 [])).cpu.priv ≠ .machine ∧
    (csrGet (inMode .supervisor [(0x300, 0x500000)] (machine .w64 [])).cpu 0x300).getLsbD 22 = true ∧
    (csrGet (inMode .supervisor [(0x300, 0x500000)] (machine .w64 [])).cpu 0x300).getLsbD 20 = true := by unfold Permitted; decide +kernel

theorem witness_Returns : (inMode .machine [(0x300, 0x880)] (machine .w64 [])).csrWf = true ∧
    (inMode .machine [(0x300, 0x880)] (machine .w64 [])).cpu.priv = .machine ∧
    (csrGet (inMode .supervisor [] (machine .w64 [])).cpu 0x300).getLsbD 22 = false := by decide +kernel

theorem witness_TrapEntry : Store.wf (inMode .user [(0x302, 0x8)] (machine .w64 [])).cpu.csr = true ∧
    (csrGet (inMode .user [(0x302, 0x8)] (machine .w64 [])).cpu 0x302).getLsbD (trapCode .envCallU) = false ∧
    (csrGet (inMode .user [(0x302, 0x8)] (machine .w64 [])).cpu 0x302).getLsbD (trapCode .breakpoint) = true ∧
    (inMode .user [(0x302, 0x8)] (machine .w64 [])).cpu.priv ≠ .machine := by decide +kernel

theorem witness_MretUndoesMachineTrapEntry : delegated (inMode .user [] (machine .w64 [])).cpu (trapCode .envCallU) = false ∧
    isOdd (machine .w32 []).cpu.pc = false ∧ (machine .w32 []).cpu.pc.toNat < 2 ^ 32 ∧ (machine .w64 []).cpu.xlen = .w64 := by decide +kernel

theorem witness_StepRunsTheDecodedInstruction : addMachine.bind = refBind ∧ (.add : Mnemonic) ∈ refMnemonics ∧
    refTranslate addMachine.cpu addMachine.cpu.pc = .ok 1 ∧ isLong (refReadHalf addMachine.cpu 1 0x1000) = true ∧
    decideTree (treeOf addMachine .w64) (longOpcode (refReadHalf addMachine.cpu 1 0x1000) (refReadHalf addMachine.cpu 1 0x1002)) =
      .decl (Instr.decl (.add 2 2 5)) ∧
    Instr.ofDecl (Instr.decl (.add 2 2 5)) 0x00510133 = some (.add 2 2 5) ∧
    addMachine.cpu.pc.toNat % 4096 ≠ 4094 ∧ crossMachine.cpu.pc.toNat % 4096 = 4094 ∧
    refTranslate crossMachine.cpu (crossMachine.cpu.pc + 2) = .ok 2 ∧
    isLong (refReadHalf (codeAt 0x1000 [0x85, 0x00] (machine .w64 [])).cpu 1 0x1000) = false := by decide +kernel

/-- A good state, with the bytes of an instruction at `pc`. -/
theorem witness_Inv : addMachine.Inv ∧ addMachine.bp = none :=
  ⟨⟨⟨rfl, rfl, rfl⟩, by decide +kernel, by decide +kernel, by decide +kernel, by decide +kernel, by decide +kernel⟩, rfl⟩

theorem witness_StepRunsWhatTheBytesDecodeTo : breakpointAt addMachine.bp addMachine.cpu.pc = false ∧
    (∀ j < 4, tagOf addMachine.cpu.unmapped (pageOf (addMachine.cpu.pc + BitVec.ofNat 64 j)) = none) ∧
    decode .w64 [0x33, 0x01, 0x51, 0x00] = .ok (.add 2 2 5, []) ∧ byteAt addMachine.cpu 0x1000 = 0x33 ∧
    byteAt addMachine.cpu 0x1003 = 0x00 := by decide +kernel

theorem witness_step : nextWith (step addMachine) (fun t => t.outcome == some .retired) = true := by decide +kernel

theorem witness_UserModeCannotReachPrivilegedState : (inMode .user [(0x300, 0x8)] (machine .w64 [])).csrWf = true ∧
    nextWith (exec (.csrrw 1 2 0x003) (inMode .user [(0x300, 0x8)] (machine .w64 []))) (fun t => t.outcome == some .retired) = true := by
  decide +kernel

end Sys2Proof.Tests
end

section
/-! PROOFS. UPDATE-PC after a handler that is done (44_dispatch_loop.md R157 to R159). -/

namespace Sys2Proof.Machine

/-! ## EXECUTE of a bound declaration, then UPDATE-PC -/

/-- EXECUTE calls the handler bound to the latched declaration, once, and goes by what it answers (R153, R154). -/
theorem executeStage_bound (c : Collaborators) {s : State} {d : Declaration} {b : Binding} (hr : s.lat.res = .decl d)
    (hb : bindOf s.bind d.mnemonic = some b) :
    executeStage c s = afterCall (takeAnswer c.deliver (noteCall (.handler b.handler s.lat.args) s))
      (c.handler b.handler s.lat.args s.cpu) := by
  simp [executeStage, hr, hb]

/-- UPDATE-PC of a latched declaration, after a handler that is done. -/
theorem updateStage_done {s : State} {d : Declaration} {taken : Bool} (hr : s.lat.res = .decl d)
    (ho : s.lat.out = .done taken) : updateStage s = .next (updatePc d.pcclass d.width taken s) := by
  simp [updateStage, hr, ho, takenOf]

/-- When the handler is done, the rest of the pass is UPDATE-PC on the CPU state it left; only its call is recorded. -/
theorem fromExecute_done {c : Collaborators} {s : State} {d : Declaration} {b : Binding} {taken : Bool} {u : Cpu}
    (hp : s.phase = .execute) (hr : s.lat.res = .decl d) (hb : bindOf s.bind d.mnemonic = some b)
    (hh : c.handler b.handler s.lat.args s.cpu = .returns (.done taken u)) :
    fromExecute c (.next s) = .next (updatePc d.pcclass d.width taken
      { noteCall (.handler b.handler s.lat.args) s with
        cpu := u
        phase := .update
        lat := { s.lat with out := .done taken } }) := by
  rw [fromExecute, continueAt_same _ _ _ hp, executeStage_bound c hr hb, hh, afterCall_returns]
  exact (continueAt_same .update updateStage _ rfl).trans (updateStage_done hr rfl)

/-- The pass then retires, and `pc` alone may differ from what the handler left: where the class says so (R156), it is the
default advance. -/
theorem fromExecute_done_retires {c : Collaborators} {s : State} {d : Declaration} {b : Binding} {taken : Bool} {u : Cpu}
    (hp : s.phase = .execute) (hr : s.lat.res = .decl d) (hb : bindOf s.bind d.mnemonic = some b)
    (hh : c.handler b.handler s.lat.args s.cpu = .returns (.done taken u)) :
    ∃ t, fromExecute c (.next s) = .next t ∧
      t.cpu = { u with pc := if advances d.pcclass taken then s.lat.pc0 + widthWord d.width else u.pc } ∧
      t.outcome = some .retired ∧ t.phase = .idle :=
  ⟨_, fromExecute_done hp hr hb hh, updatePc_cpu .., updatePc_outcome .., updatePc_phase ..⟩

/-! ## The classes that may keep the handler's `pc` -/

@[simp] theorem advances_branch (taken : Bool) : advances .branch taken = !taken := rfl
@[simp] theorem advances_jump (taken : Bool) : advances .jump taken = false := rfl
@[simp] theorem advances_trapBoundary (taken : Bool) : advances .trapBoundary taken = false := rfl

/-- Settles O20: the loop advances after a branch exactly when it was not taken. -/
theorem takenBranchKeepsItsTarget : Obligations.TakenBranchKeepsItsTarget := by
  unfold Obligations.TakenBranchKeepsItsTarget
  intro c s d b taken u hp hr hb hk hh
  obtain ⟨t, ht, hcpu, hend⟩ := fromExecute_done_retires hp hr hb hh
  refine ⟨t, ht, ?_, hend⟩
  rw [hcpu, hk, advances_branch]
  cases taken with
  | true => rfl
  | false => rfl

/-- Settles O21: the loop advances after neither class, whatever `taken` is. -/
theorem jumpAndTrapBoundaryKeepTheHandlersPc : Obligations.JumpAndTrapBoundaryKeepTheHandlersPc := by
  unfold Obligations.JumpAndTrapBoundaryKeepTheHandlersPc
  intro c s d b taken u hp hr hb hk hh
  obtain ⟨t, ht, hcpu, hend⟩ := fromExecute_done_retires hp hr hb hh
  have hadv : advances d.pcclass taken = false := by
    obtain hk | hk := hk
    · rw [hk, advances_jump]
    · rw [hk, advances_trapBoundary]
  refine ⟨t, ht, ?_, hend⟩
  rw [hcpu, hadv]
  rfl

end Sys2Proof.Machine
end

section
/-! PROOFS. Every pass that ends is ready for the next (44_dispatch_loop.md R161); a pass is stuck only where a collaborator hangs
(93_implementation_defined.md U6). -/

namespace Sys2Proof.Machine

/-! ## What a pass can come to, from any stage on -/

/-- Some handler or `Deliver` does not return from some call. -/
def CanHang (c : Collaborators) : Prop := (∃ h a u, c.handler h a u = .hangs) ∨ ∃ k v u, c.deliver k v u = .hangs

theorem not_canHang {c : Collaborators} (hh : ∀ h a u, c.handler h a u ≠ .hangs) (hd : ∀ k v u, c.deliver k v u ≠ .hangs) :
    ¬ CanHang c := by
  rintro (⟨h, a, u, hang⟩ | ⟨k, v, u, hang⟩)
  · exact hh h a u hang
  · exact hd k v u hang

/-- What is kept from stage to stage of a pass: from `s` it has come to phase `p` or, with an outcome, to its end in IDLE, and the
tables are those of `s`; where it is stuck, a collaborator can hang. -/
def ReachesOrEnds (c : Collaborators) (p : Phase) (s : State) (o : Result) : Prop :=
  match o with
  | .next t => (t.phase = p ∨ t.phase = .idle) ∧ (t.phase = .idle → t.outcome ≠ none) ∧ SameTables s t
  | .fault r => r = .stuck ∧ CanHang c
  | .refused _ => True

theorem SameTables.trans {s t u : State} (h : SameTables s t) (h' : SameTables t u) : SameTables s u :=
  ⟨h'.tree32.trans h.tree32, h'.tree64.trans h.tree64, h'.bind.trans h.bind, h'.bp.trans h.bp, h'.budget.trans h.budget,
    h'.pc0.trans h.pc0, h'.xlen0.trans h.xlen0⟩

theorem ReachesOrEnds.of_sameTables {c : Collaborators} {p : Phase} {s t : State} {o : Result} (hst : SameTables s t)
    (h : ReachesOrEnds c p t o) : ReachesOrEnds c p s o := by
  cases o with
  | next u =>
    obtain ⟨hp, ho, htu⟩ := h
    exact ⟨hp, ho, hst.trans htu⟩
  | fault r => exact h
  | refused r => trivial

/-- Stages chain: the next one starts in the phase that was reached, and a pass that is over stays so. -/
theorem ReachesOrEnds.continueAt {c : Collaborators} {p q : Phase} {s : State} {f : State → Result} {o : Result}
    (h : ReachesOrEnds c p s o) (hf : ∀ t, ReachesOrEnds c q t (f t)) : ReachesOrEnds c q s (continueAt p f o) := by
  cases o with
  | next t =>
    obtain ⟨hp, ho, hst⟩ := h
    by_cases hpt : t.phase = p
    · rw [continueAt_same p f t hpt]
      exact (hf t).of_sameTables hst
    · rw [continueAt_other p f t hpt]
      exact ⟨.inr (hp.resolve_left hpt), ho, hst⟩
  | fault r => exact h
  | refused r => trivial

/-- A stage that goes on to a phase other than IDLE owes no outcome yet. -/
theorem ReachesOrEnds.next {c : Collaborators} {p : Phase} {s t : State} (hp : t.phase = p) (hne : p ≠ .idle)
    (hst : SameTables s t) : ReachesOrEnds c p s (.next t) :=
  ⟨.inl hp, fun idle => absurd (hp.symm.trans idle) hne, hst⟩

/-! ## Each stage -/

/-- A trap ends the pass, unless `Deliver` hangs or issues a command. -/
theorem raiseTrap_reachesOrEnds (c : Collaborators) (p : Phase) (k : TrapKind) (v : Word) (s : State) :
    ReachesOrEnds c p s (raiseTrap c.deliver k v s) := by
  obtain ⟨u, -, h⟩ | ⟨hang, h⟩ | ⟨-, h⟩ := raiseTrap_cases c.deliver k v s
  · rw [h]
    exact ⟨.inr rfl, fun _ => Option.some_ne_none _, rfl, rfl, rfl, rfl, rfl, rfl, rfl⟩
  · rw [h]
    exact ⟨rfl, .inr ⟨_, _, _, hang⟩⟩
  · rw [h]
    trivial

/-- The state of a pass that has started: `pc` and `xlen` latched, no call recorded (R141). -/
def latched (s : State) : State := { s with lat := { s.lat with pc0 := s.cpu.pc, xlen0 := s.cpu.xlen }, calls := [] }

theorem startStage_reachesOrEnds (c : Collaborators) (s : State) :
    ReachesOrEnds c .fetch (latched s) (startStage s) := by
  unfold startStage
  split
  · trivial
  · split
    · trivial
    · dsimp only
      split
      · exact ⟨.inr (not_not.mp ‹_›), fun _ => Option.some_ne_none _, rfl, rfl, rfl, rfl, rfl, rfl, rfl⟩
      · exact .next rfl nofun ⟨rfl, rfl, rfl, rfl, rfl, rfl, rfl⟩

theorem noteCall_same (k : Call) (s : State) : SameTables s (noteCall k s) := ⟨rfl, rfl, rfl, rfl, rfl, rfl, rfl⟩

theorem fetchStage_reachesOrEnds (c : Collaborators) (s : State) : ReachesOrEnds c .decode s (fetchStage c s) := by
  have first : SameTables s (noteCall (.translate s.lat.pc0) s) := noteCall_same _ _
  have read := first.trans (noteCall_same (.readHalf s.lat.pc0) _)
  have second := read.trans (noteCall_same (.translate (s.lat.pc0 + 2)) _)
  unfold fetchStage
  dsimp only
  split
  · exact (raiseTrap_reachesOrEnds c _ _ _ _).of_sameTables first
  · split
    · split
      · split
        · exact (raiseTrap_reachesOrEnds c _ _ _ _).of_sameTables second
        · obtain ⟨hp, -, same⟩ := fetchSecond_same c _ _ _ _
          exact .next hp nofun (second.trans same)
      · obtain ⟨hp, -, same⟩ := fetchSecond_same c _ _ _ _
        exact .next hp nofun (read.trans same)
    · obtain ⟨hp, -, same⟩ := fetchedShort_same _ _
      exact .next hp nofun (read.trans same)

theorem decodeStage_reachesOrEnds (c : Collaborators) (s : State) : ReachesOrEnds c .extract s (decodeStage c s) := by
  have same (r : DecideResult) : SameTables s (setRes r s) := ⟨rfl, rfl, rfl, rfl, rfl, rfl, rfl⟩
  unfold decodeStage
  cases decideTree (treeOf s s.lat.xlen0) s.lat.opcode with
  | illegal => exact (raiseTrap_reachesOrEnds c _ _ _ _).of_sameTables (same .illegal)
  | nop d => exact ⟨.inr rfl, fun _ => Option.some_ne_none _, rfl, rfl, rfl, rfl, rfl, rfl, rfl⟩
  | decl d => exact .next rfl nofun ⟨rfl, rfl, rfl, rfl, rfl, rfl, rfl⟩

theorem extractStage_reachesOrEnds (c : Collaborators) (s : State) : ReachesOrEnds c .execute s (extractStage s) := by
  unfold extractStage
  split
  · split
    · exact .next rfl nofun ⟨rfl, rfl, rfl, rfl, rfl, rfl, rfl⟩
    · trivial
  · trivial
  · trivial

theorem takeAnswer_reachesOrEnds (c : Collaborators) (s : State) (a : Answer) :
    ReachesOrEnds c .update s (takeAnswer c.deliver s a) := by
  cases a with
  | done taken u => exact .next rfl nofun ⟨rfl, rfl, rfl, rfl, rfl, rfl, rfl⟩
  | raise k v u =>
    have same : SameTables s { s with cpu := u, lat := { s.lat with out := .raise k v } } := ⟨rfl, rfl, rfl, rfl, rfl, rfl, rfl⟩
    exact (raiseTrap_reachesOrEnds c _ k v _).of_sameTables same

theorem executeStage_reachesOrEnds (c : Collaborators) (s : State) : ReachesOrEnds c .update s (executeStage c s) := by
  unfold executeStage
  split
  · split
    next b _ =>
      cases h : c.handler b.handler s.lat.args s.cpu with
      | hangs => exact ⟨rfl, .inl ⟨_, _, _, h⟩⟩
      | commands => trivial
      | returns a => exact (takeAnswer_reachesOrEnds c _ a).of_sameTables (noteCall_same _ s)
    next => trivial
  · trivial
  · trivial

theorem updateStage_reachesOrEnds (c : Collaborators) (s : State) : ReachesOrEnds c .idle s (updateStage s) := by
  unfold updateStage
  cases s.lat.res with
  | illegal => trivial
  | nop d => trivial
  | decl d =>
    refine ⟨.inr (updatePc_phase ..), fun _ => ?_, updatePc_tree32 .., updatePc_tree64 .., updatePc_bind .., updatePc_bp ..,
      updatePc_budget .., ?_, ?_⟩
    · rw [updatePc_outcome]
      exact Option.some_ne_none _
    · rw [updatePc_lat]
    · rw [updatePc_lat]

/-! ## The pass -/

/-- The stages of a pass, in order (R163), take it from its start to IDLE. -/
theorem pass_reachesOrEnds (c : Collaborators) (s : State) : ReachesOrEnds c .idle (latched s) (pass c s) :=
  startStage_reachesOrEnds c s
    |>.continueAt (fetchStage_reachesOrEnds c)
    |>.continueAt (decodeStage_reachesOrEnds c)
    |>.continueAt (extractStage_reachesOrEnds c)
    |>.continueAt (executeStage_reachesOrEnds c)
    |>.continueAt (updateStage_reachesOrEnds c)

/-- No fatal failure: a pass that does not go on is stuck, with a collaborator that can hang. -/
theorem pass_fault {c : Collaborators} {s : State} {r : Fault} (h : pass c s = .fault r) : r = .stuck ∧ CanHang c := by
  have hend := pass_reachesOrEnds c s
  rwa [h] at hend

/-- A pass that ends is ready for the next, with an outcome and the tables that it started with (R161). -/
theorem pass_next {c : Collaborators} {s t : State} (h : pass c s = .next t) :
    t.phase = .idle ∧ t.outcome ≠ none ∧ SameTables (latched s) t := by
  have hend := pass_reachesOrEnds c s
  rw [h] at hend
  obtain ⟨hp, ho, same⟩ := hend
  have idle : t.phase = .idle := hp.elim id id
  exact ⟨idle, ho idle, same⟩

/-- Only a pass from IDLE ends (R177). -/
theorem idle_of_pass_next {c : Collaborators} {s t : State} (h : pass c s = .next t) : s.phase = .idle := by
  by_contra hp
  have refused : startStage s = .refused .notIdle := if_pos hp
  simp [pass, beforeExecute, fromExecute, refused] at h

/-- From EXECUTE on, a pass calls the bound handler, takes its answer and updates `pc`. -/
theorem fromExecute_bound (c : Collaborators) {s : State} {d : Declaration} {b : Binding} (hp : s.phase = .execute)
    (hr : s.lat.res = .decl d) (hb : bindOf s.bind d.mnemonic = some b) :
    fromExecute c (.next s) = continueAt .update updateStage
      (afterCall (takeAnswer c.deliver (noteCall (.handler b.handler s.lat.args) s)) (c.handler b.handler s.lat.args s.cpu)) := by
  rw [fromExecute, continueAt_same _ _ _ hp, executeStage_bound c hr hb]

/-- A pass that ends other than at a breakpoint counts as one step of RUN, which goes on (R173). -/
theorem runWith_succ_of_next {onePass : State → Result} {n : Nat} {s t : State} (hs : s.phase = .idle)
    (h : onePass { s with budget := n + 1 } = .next t) (ht : t.phase = .idle) (hstop : stopOf t.outcome = none) :
    runWith onePass (n + 1) s = runWith onePass n t := by
  simp only [runWith, if_pos hs, if_pos ht, runLoop, h, hstop]

/-- Settles O22: `pass_reachesOrEnds` says how a pass can end; a trapped one ends in IDLE, no
breakpoint hit, and so RUN goes on. -/
theorem passEndsReadyForTheNext : Obligations.PassEndsReadyForTheNext := by
  unfold Obligations.PassEndsReadyForTheNext
  intro c s
  refine ⟨fun r h => (pass_fault h).1, fun hh hd r h => not_canHang hh hd (pass_fault h).2, ?_, fun t h => ?_, ?_⟩
  · intro d b hp hr hb
    rw [fromExecute_bound c hp hr hb]
    constructor
    · intro hang
      rw [hang, afterCall_hangs, continueAt_fault]
    · intro command
      rw [command, afterCall_commands, continueAt_refused]
  · obtain ⟨hp, ho, same⟩ := pass_next h
    exact ⟨hp, ho, same.tree32, same.tree64, same.bind, same.bp, same.budget⟩
  · intro n t k v h ho
    have hs : s.phase = .idle := idle_of_pass_next (s := { s with budget := n + 1 }) h
    obtain ⟨ht, -, -⟩ := pass_next h
    have goesOn : stopOf t.outcome = none := by rw [ho]; rfl
    exact runWith_succ_of_next hs h ht goesOn

end Sys2Proof.Machine
end

section
/-! PROOFS. Bits of the words that the model makes by folding, masking and shifting. -/

namespace Sys2Proof

/-- A bit of a disjunction over a list is set when it is set at the start or in a member. -/
theorem getLsbD_foldl_or {α : Type} {w : Nat} (f : α → BitVec w) (l : List α) (z : BitVec w) (i : Nat) :
    (l.foldl (fun m a => m ||| f a) z).getLsbD i = true ↔
      z.getLsbD i = true ∨ ∃ a ∈ l, (f a).getLsbD i = true := by
  induction l generalizing z with
  | nil => simp
  | cons a l ih => simp [ih, or_assoc]

/-- The `n` low bits, as a mask. -/
theorem getLsbD_lowOnes {w n : Nat} (hn : n ≤ w) (i : Nat) :
    ((1#w <<< n) - 1#w).getLsbD i = decide (i < n) := by
  have hpow : 2 ^ n ≤ 2 ^ w := Nat.pow_le_pow_right (by decide) hn
  have hpos : 0 < 2 ^ n := Nat.two_pow_pos n
  have htoNat : ((1#w <<< n) - 1#w).toNat = 2 ^ n - 1 := by
    rcases Nat.eq_zero_or_pos w with rfl | hw
    · obtain rfl : n = 0 := by omega
      rfl
    have hone : (1#w).toNat = 1 := by
      rw [BitVec.toNat_ofNat]
      exact Nat.mod_eq_of_lt (Nat.one_lt_two_pow (by omega))
    rw [BitVec.toNat_sub, BitVec.toNat_shiftLeft, hone, Nat.shiftLeft_eq, Nat.one_mul]
    rcases Nat.lt_or_ge n w with h | h
    · have hlt : 2 ^ n < 2 ^ w := Nat.pow_lt_pow_right (by decide) h
      rw [Nat.mod_eq_of_lt hlt, show 2 ^ w - 1 + 2 ^ n = 2 ^ n - 1 + 2 ^ w by omega, Nat.add_mod_right,
        Nat.mod_eq_of_lt (by omega)]
    · obtain rfl : n = w := by omega
      rw [Nat.mod_self, Nat.add_zero, Nat.mod_eq_of_lt (by omega)]
  rw [BitVec.getLsbD, htoNat, Nat.testBit_two_pow_sub_one]

/-- The bits of `bitRange hi lo` are those from `lo` to `hi`. -/
theorem getLsbD_bitRange {hi lo : Nat} (h : hi ≤ 31) (i : Nat) :
    (bitRange hi lo).getLsbD i = true ↔ lo ≤ i ∧ i ≤ hi := by
  simp only [bitRange, BitVec.getLsbD_shiftLeft, getLsbD_lowOnes (show hi + 1 - lo ≤ 32 by omega), Bool.and_eq_true,
    Bool.not_eq_true', decide_eq_true_eq, decide_eq_false_iff_not]
  omega

/-- Two words whose conjunction is zero share no bit. -/
theorem and_eq_zero_iff {w : Nat} (a b : BitVec w) :
    a &&& b = 0#w ↔ ∀ i, a.getLsbD i = true → b.getLsbD i = false := by
  constructor
  · intro h i ha
    have := congrArg (fun v : BitVec w => v.getLsbD i) h
    simpa [ha] using this
  · intro h
    refine BitVec.eq_of_getLsbD_eq fun i hi => ?_
    cases ha : a.getLsbD i
    · simp [ha]
    · simp [h i ha]

end Sys2Proof
end

section
/-! PROOFS. Precedence among the declarations that match a word (40_declaration_model.md R80 to R87). -/

namespace Sys2Proof

/-! ## The most specific declaration -/

theorem mostSpecific_eq_none {l : List Declaration} (h : mostSpecific l = none) : l = [] := by
  cases l with
  | nil => rfl
  | cons d ds =>
    unfold mostSpecific at h
    cases he : mostSpecific ds with
    | none => simp [he] at h
    | some e =>
      simp only [he] at h
      split at h <;> cases h

/-- The most specific declaration is one of the list, and none has more fixed bits. -/
theorem mostSpecific_eq_some {l : List Declaration} {d : Declaration} (h : mostSpecific l = some d) :
    d ∈ l ∧ ∀ e ∈ l, e.fixedBits ≤ d.fixedBits := by
  induction l generalizing d with
  | nil => cases h
  | cons a l ih =>
    unfold mostSpecific at h
    cases he : mostSpecific l with
    | none =>
      simp only [he, Option.some.injEq] at h
      subst h
      simp [mostSpecific_eq_none he]
    | some e =>
      obtain ⟨hmem, hmax⟩ := ih he
      simp only [he] at h
      split at h
      all_goals
        cases h
        refine ⟨by simp [hmem], fun b hb => ?_⟩
        obtain rfl | hb := List.mem_cons.mp hb
      · omega
      · exact hmax b hb
      · exact Nat.le_refl _
      · have := hmax b hb
        omega

/-- A declaration with strictly more fixed bits than all others of the list is the most specific one. -/
theorem mostSpecific_of_lt {l : List Declaration} {d : Declaration} (hd : d ∈ l)
    (hlt : ∀ e ∈ l, e ≠ d → e.fixedBits < d.fixedBits) : mostSpecific l = some d := by
  cases h : mostSpecific l with
  | none =>
    rw [mostSpecific_eq_none h] at hd
    cases hd
  | some e =>
    obtain ⟨hmem, hmax⟩ := mostSpecific_eq_some h
    by_cases he : e = d
    · rw [he]
    · have := hlt e hmem he
      have := hmax d hd
      omega

/-! ## Ties (R87) -/

/-- Two different declarations that match the word tie at the greatest number of fixed bits. -/
def TieAt (ds : List Declaration) (w : Opcode) : Prop :=
  ∃ d1 ∈ matchSet ds w, ∃ d2 ∈ matchSet ds w, d1 ≠ d2 ∧ d1.fixedBits = d2.fixedBits ∧
    ∀ e ∈ matchSet ds w, e.fixedBits ≤ d1.fixedBits

theorem ambiguous_iff_tieAt (ds : List Declaration) : Ambiguous ds ↔ ∃ w, TieAt ds w := Iff.rfl

theorem TieAt.congr {ds es : List Declaration} {w : Opcode} (h : matchSet ds w = matchSet es w) :
    TieAt ds w ↔ TieAt es w := by
  unfold TieAt
  rw [h]

/-- Without a tie, a declaration that attains the greatest number of fixed bits has strictly more than all others. -/
theorem lt_of_not_tieAt {ds : List Declaration} {w : Opcode} (hn : ¬ TieAt ds w) {d : Declaration} (hd : d ∈ matchSet ds w)
    (hmax : ∀ e ∈ matchSet ds w, e.fixedBits ≤ d.fixedBits) :
    ∀ e ∈ matchSet ds w, e ≠ d → e.fixedBits < d.fixedBits := by
  intro e he hne
  refine lt_of_le_of_ne (hmax e he) fun heq => hn ⟨d, hd, e, he, hne.symm, heq.symm, hmax⟩

/-! ## DecideSpec (R86) -/

theorem decideSpec_of_winner {ds : List Declaration} {w : Opcode} {d : Declaration} (h : winner ds w = some d) :
    decideSpec ds w = resultOf d := by
  simp only [decideSpec, h]

theorem decideSpec_of_matchSet_nil {ds : List Declaration} {w : Opcode} (h : matchSet ds w = []) :
    decideSpec ds w = .illegal := by
  simp only [decideSpec, winner, h, mostSpecific]

theorem decideSpec_congr {ds es : List Declaration} {w : Opcode} (h : matchSet ds w = matchSet es w) :
    decideSpec ds w = decideSpec es w := by
  simp only [decideSpec, winner, h]

/-- Settles O1: without a tie at the word, the most specific match is the only one with its number of fixed bits. -/
theorem mostFixedBitsWins : Obligations.MostFixedBitsWins := by
  unfold Obligations.MostFixedBitsWins
  intro ds w hamb
  have hn : ¬ TieAt ds w := fun h => hamb ⟨w, h⟩
  refine ⟨decideSpec_of_matchSet_nil, fun d hd hmax => ?_, fun hne => ?_⟩
  · exact decideSpec_of_winner (mostSpecific_of_lt hd (lt_of_not_tieAt hn hd hmax))
  · cases h : mostSpecific (matchSet ds w) with
    | none => exact absurd (mostSpecific_eq_none h) hne
    | some d =>
      obtain ⟨hd, hmax⟩ := mostSpecific_eq_some h
      exact ⟨d, hd, lt_of_not_tieAt hn hd hmax⟩

end Sys2Proof
end

section
/-! PROOFS. BUILD makes a tree that decides as DecideSpec does, or fails for one of its three reasons (41_tree_builder.md R100 to
R112). -/

namespace Sys2Proof.Machine

/-! ## Agreement of a word with a declaration on the tested bits -/

/-- On the bits of `k` the word is as the declaration fixes it. -/
def AgreesOn (k w : Opcode) (d : Declaration) : Prop :=
  ∀ i, k.getLsbD i = true → d.mask.getLsbD i = true → w.getLsbD i = d.pattern.getLsbD i

/-- Two words have the same bits of `k`. -/
def SameOn (k v w : Opcode) : Prop := ∀ i, k.getLsbD i = true → v.getLsbD i = w.getLsbD i

theorem mask_of_pattern {d : Declaration} (h : d.patternOk = true) {i : Nat} (hi : d.pattern.getLsbD i = true) :
    d.mask.getLsbD i = true := by
  have hz : d.pattern &&& ~~~d.mask = 0#32 := by simpa [Declaration.patternOk] using h
  have hlt := BitVec.lt_of_getLsbD hi
  simpa [hlt] using (and_eq_zero_iff _ _).mp hz i hi

/-- A word matches when each fixed bit is as the pattern says (R80). -/
theorem isMatch_iff {d : Declaration} (h : d.patternOk = true) (w : Opcode) :
    d.isMatch w = true ↔ ∀ i, d.mask.getLsbD i = true → w.getLsbD i = d.pattern.getLsbD i := by
  simp only [Declaration.isMatch, beq_iff_eq]
  constructor
  · intro hw i hi
    have := congrArg (fun v : Opcode => v.getLsbD i) hw
    simpa [hi] using this
  · intro hw
    refine BitVec.eq_of_getLsbD_eq fun i _ => ?_
    cases hm : d.mask.getLsbD i
    · have : d.pattern.getLsbD i = false := by
        by_contra hp
        rw [mask_of_pattern h (by simpa using hp)] at hm
        cases hm
      simp [hm, this]
    · simp [hm, hw i hm]

/-- A bit is left to test when some candidate fixes it outside the tested set. -/
theorem getLsbD_someFixed (cs : List Declaration) (k : Opcode) (i : Nat) :
    (someFixed cs k).getLsbD i = true ↔ ∃ d ∈ cs, d.mask.getLsbD i = true ∧ k.getLsbD i = false := by
  rw [someFixed, getLsbD_foldl_or, show (0 : Opcode).getLsbD i = false from BitVec.getLsbD_zero]
  simp only [Bool.false_eq_true, false_or, BitVec.getLsbD_and, BitVec.getLsbD_not, Bool.and_eq_true, Bool.not_eq_true',
    decide_eq_true_eq]
  refine exists_congr fun d => and_congr_right fun _ => and_congr_right fun hm => ?_
  simp [BitVec.lt_of_getLsbD hm]

theorem getLsbD_allFixed {cs : List Declaration} {k : Opcode} {i : Nat} (h : (allFixed cs k).getLsbD i = true) :
    k.getLsbD i = false := by
  simp only [allFixed, BitVec.getLsbD_and, BitVec.getLsbD_not, Bool.and_eq_true, Bool.not_eq_true', decide_eq_true_eq] at h
  exact h.2.2

/-- When no candidate fixes a bit outside the tested set, every candidate matches a word that agrees on that set. -/
theorem matchSet_of_tested {cs : List Declaration} {k w : Opcode} (hp : ∀ d ∈ cs, d.patternOk = true)
    (hk : someFixed cs k = 0) (ha : ∀ d ∈ cs, AgreesOn k w d) : matchSet cs w = cs := by
  refine List.filter_eq_self.mpr fun d hd => (isMatch_iff (hp d hd) w).mpr fun i hi => ha d hd i ?_ hi
  by_contra hki
  have : (someFixed cs k).getLsbD i = true := (getLsbD_someFixed cs k i).mpr ⟨d, hd, hi, by simpa using hki⟩
  simp [hk] at this

/-! ## The group of bits that a node tests (R104, R105) -/

/-- The number of bits that are not tested yet. -/
def untested (k : Opcode) : Nat := ((Finset.range 32).filter fun i => k.getLsbD i = false).card

theorem untested_zero : untested 0 = 32 := by simp [untested]

theorem untested_or_lt {k g : Opcode} {i : Nat} (hk : k.getLsbD i = false) (hg : g.getLsbD i = true) :
    untested (k ||| g) < untested k := by
  refine Finset.card_lt_card (Finset.ssubset_iff_of_subset ?_ |>.mpr ⟨i, ?_, ?_⟩)
  · intro j hj
    simp only [Finset.mem_filter, BitVec.getLsbD_or, Bool.or_eq_false_iff] at hj ⊢
    exact ⟨hj.1, hj.2.1⟩
  · exact Finset.mem_filter.mpr ⟨Finset.mem_range.mpr (BitVec.lt_of_getLsbD hg), hk⟩
  · simp [hg]

/-- A group of `n` bits from `lo` upward, none of them tested yet. -/
structure IsGroup (k : Opcode) (lo n : Nat) : Prop where
  pos   : 0 < n
  le    : lo + n ≤ 32
  fresh : ∀ i, lo ≤ i → i < lo + n → k.getLsbD i = false

/-- The mask of a group. -/
def groupMask (lo n : Nat) : Opcode := bitRange (lo + n - 1) lo

theorem IsGroup.getLsbD_mask {k : Opcode} {lo n : Nat} (h : IsGroup k lo n) (i : Nat) :
    (groupMask lo n).getLsbD i = true ↔ lo ≤ i ∧ i < lo + n := by
  have hpos := h.pos
  have hle := h.le
  rw [groupMask, getLsbD_bitRange (by omega)]
  omega

theorem IsGroup.untested_lt {k : Opcode} {lo n : Nat} (h : IsGroup k lo n) :
    untested (k ||| groupMask lo n) < untested k := by
  have hpos := h.pos
  exact untested_or_lt (h.fresh lo le_rfl (by omega)) ((h.getLsbD_mask lo).mpr ⟨le_rfl, by omega⟩)

theorem getLsbD_lowestFrom {s : Opcode} {i j n : Nat} (hij : i ≤ j) (hj : j < i + n) (hs : s.getLsbD j = true) :
    s.getLsbD (lowestFrom s i n) = true := by
  induction n generalizing i with
  | zero => omega
  | succ n ih =>
    unfold lowestFrom
    split
    · assumption
    · have hne : i ≠ j := by
        rintro rfl
        contradiction
      exact ih (by omega) (by omega)

/-- The lowest 1 bit of a word that is not zero. -/
theorem getLsbD_lowestBit {s : Opcode} (h : s ≠ 0) : s.getLsbD (lowestBit s) = true := by
  obtain ⟨j, hj, hs⟩ : ∃ j, j < 32 ∧ s.getLsbD j = true := by
    by_contra hno
    refine h (BitVec.eq_of_getLsbD_eq fun i hi => ?_)
    have : ¬ s.getLsbD i = true := fun hs => hno ⟨i, hi, hs⟩
    simpa using this
  exact getLsbD_lowestFrom (Nat.zero_le j) (by omega) hs

theorem getLsbD_of_lt_runLength {s : Opcode} {i j cap : Nat} (h : j < runLength s i cap) : s.getLsbD (i + j) = true := by
  induction cap generalizing i j with
  | zero => simp [runLength] at h
  | succ cap ih =>
    unfold runLength at h
    split at h
    · cases j with
      | zero => assumption
      | succ j => simpa [Nat.add_assoc, Nat.add_comm 1 j] using ih (i := i + 1) (j := j) (by omega)
    · omega

theorem runLength_pos {s : Opcode} {i cap : Nat} (hs : s.getLsbD i = true) (hcap : 0 < cap) : 0 < runLength s i cap := by
  obtain ⟨cap, rfl⟩ := Nat.exists_eq_succ_of_ne_zero (Nat.ne_of_gt hcap)
  simp [runLength, hs]

/-- The run of 1 bits from the lowest one of a set of bits that are not tested yet is a group. -/
theorem isGroup_lowestRun {s k : Opcode} {cap : Nat} (hs : s ≠ 0) (hsk : ∀ i, s.getLsbD i = true → k.getLsbD i = false)
    (hcap : 0 < cap) : IsGroup k (lowestBit s) (runLength s (lowestBit s) cap) := by
  have hpos := runLength_pos (getLsbD_lowestBit hs) hcap
  refine ⟨hpos, ?_, fun i hlo hi => ?_⟩
  · have := BitVec.lt_of_getLsbD
      (getLsbD_of_lt_runLength (s := s) (i := lowestBit s) (cap := cap) (j := runLength s (lowestBit s) cap - 1) (by omega))
    omega
  · have := getLsbD_of_lt_runLength (s := s) (i := lowestBit s) (cap := cap) (j := i - lowestBit s) (by omega)
    rw [Nat.add_sub_cancel' hlo] at this
    exact hsk i this

/-! ## The values of a group and the candidates of a child (R106) -/

theorem testBit_groupValue (w : Opcode) (lo n j : Nat) :
    (groupValue w lo n).testBit j = (decide (j < n) && w.getLsbD (lo + j)) := by
  simp [groupValue, Nat.testBit_mod_two_pow, BitVec.getLsbD]

theorem groupValue_lt (w : Opcode) (lo n : Nat) : groupValue w lo n < 2 ^ n := Nat.mod_lt _ (Nat.two_pow_pos n)

theorem getLsbD_shiftedValue {lo i : Nat} (v : Nat) (hlo : lo ≤ i) (hi : i < 32) :
    (BitVec.ofNat 32 (v <<< lo)).getLsbD i = v.testBit (i - lo) := by
  simp only [BitVec.getLsbD_ofNat, hi, decide_true, Bool.true_and, Nat.testBit_shiftLeft, ge_iff_le, hlo]

theorem mem_childCandidates {cs : List Declaration} {k : Opcode} {lo n : Nat} (hg : IsGroup k lo n) (v : Nat)
    (d : Declaration) : d ∈ childCandidates cs lo v (groupMask lo n) ↔
      d ∈ cs ∧ ∀ i, lo ≤ i → i < lo + n → d.mask.getLsbD i = true → d.pattern.getLsbD i = v.testBit (i - lo) := by
  have hle := hg.le
  rw [childCandidates, List.mem_filter, beq_iff_eq]
  refine and_congr_right fun _ => ?_
  rw [BitVec.ofNat_eq_ofNat, and_eq_zero_iff]
  constructor
  · intro h i hlo hi hm
    have hgi := (hg.getLsbD_mask i).mpr ⟨hlo, hi⟩
    by_contra hne
    have := h i (by simpa [hm, BitVec.getLsbD_xor, getLsbD_shiftedValue v hlo (show i < 32 by omega)] using hne)
    rw [hgi] at this
    cases this
  · intro h i hi
    simp only [BitVec.getLsbD_and, BitVec.getLsbD_xor, Bool.and_eq_true] at hi
    by_contra hgi
    obtain ⟨hlo, hlt⟩ := (hg.getLsbD_mask i).mp (by simpa using hgi)
    rw [getLsbD_shiftedValue v hlo (by omega), h i hlo hlt hi.2, Bool.xor_self] at hi
    cases hi.1

/-- The child for the value that the word has in the group keeps every candidate that the word matches. -/
theorem matchSet_childCandidates {cs : List Declaration} {k w : Opcode} {lo n : Nat} (hg : IsGroup k lo n)
    (hp : ∀ d ∈ cs, d.patternOk = true) :
    matchSet (childCandidates cs lo (groupValue w lo n) (groupMask lo n)) w = matchSet cs w := by
  rw [childCandidates, matchSet, List.filter_filter]
  refine List.filter_congr fun d hd => ?_
  rw [Bool.and_eq_left_iff_imp]
  intro hm
  have hmem : d ∈ childCandidates cs lo (groupValue w lo n) (groupMask lo n) := by
    refine (mem_childCandidates hg _ d).mpr ⟨hd, fun i hlo hi hmi => ?_⟩
    rw [testBit_groupValue, ← (isMatch_iff (hp d hd) w).mp hm i hmi, Nat.add_sub_cancel' hlo]
    simp
    omega
  exact (List.mem_filter.mp hmem).2

theorem agreesOn_childCandidates {cs : List Declaration} {k w : Opcode} {lo n : Nat} (hg : IsGroup k lo n)
    (ha : ∀ d ∈ cs, AgreesOn k w d) :
    ∀ d ∈ childCandidates cs lo (groupValue w lo n) (groupMask lo n), AgreesOn (k ||| groupMask lo n) w d := by
  intro d hd i hi hm
  obtain ⟨hcs, hpat⟩ := (mem_childCandidates hg _ d).mp hd
  rw [BitVec.getLsbD_or, Bool.or_eq_true] at hi
  obtain hi | hi := hi
  · exact ha d hcs i hi hm
  · obtain ⟨hlo, hlt⟩ := (hg.getLsbD_mask i).mp hi
    rw [hpat i hlo hlt hm, testBit_groupValue, Nat.add_sub_cancel' hlo]
    simp
    omega

/-- The word with the value `v` put in a group. -/
def putGroup (lo n v : Nat) (w : Opcode) : Opcode :=
  (w &&& ~~~groupMask lo n) ||| (BitVec.ofNat 32 (v <<< lo) &&& groupMask lo n)

theorem groupValue_putGroup {k : Opcode} {lo n v : Nat} (hg : IsGroup k lo n) (hv : v < 2 ^ n) (w : Opcode) :
    groupValue (putGroup lo n v w) lo n = v := by
  refine Nat.eq_of_testBit_eq fun j => ?_
  rw [testBit_groupValue]
  by_cases hj : j < n
  · have hle := hg.le
    have hgj := (hg.getLsbD_mask (lo + j)).mpr ⟨by omega, by omega⟩
    simp [putGroup, hgj, hj, getLsbD_shiftedValue v (show lo ≤ lo + j by omega) (show lo + j < 32 by omega)]
  · have : v < 2 ^ j := lt_of_lt_of_le hv (Nat.pow_le_pow_right (by decide) (by omega))
    simp [hj, Nat.testBit_lt_two_pow this]

theorem sameOn_putGroup {k : Opcode} {lo n : Nat} (hg : IsGroup k lo n) (v : Nat) (w : Opcode) :
    SameOn k w (putGroup lo n v w) := by
  intro i hi
  have hgi : (groupMask lo n).getLsbD i = false := by
    by_contra hgi
    obtain ⟨hlo, hlt⟩ := (hg.getLsbD_mask i).mp (by simpa using hgi)
    rw [hg.fresh i hlo hlt] at hi
    cases hi
  simp only [putGroup, BitVec.getLsbD_or, BitVec.getLsbD_and, BitVec.getLsbD_not, hgi, BitVec.lt_of_getLsbD hi, decide_true,
    Bool.not_false, Bool.and_true, Bool.and_false, Bool.or_false]

theorem AgreesOn.of_sameOn {k v w : Opcode} {d : Declaration} (h : SameOn k v w) (ha : AgreesOn k v d) : AgreesOn k w d :=
  fun i hi hm => (h i hi).symm.trans (ha i hi hm)

/-! ## What a part of the builder answers -/

/-- From index `n` up to its end the arena `b` is part of the arena `a`. -/
def PartFrom (n : Nat) (b a : List Node) : Prop := ∀ j, n ≤ j → j < b.length → a[j]? = b[j]?

theorem PartFrom.of_prefix {n m : Nat} {a b c : List Node} (hnm : n ≤ m) (hbc : b <+: c) (h : PartFrom n c a) :
    PartFrom m b a := by
  intro j hj hlt
  obtain ⟨l, rfl⟩ := hbc
  rw [h j (by omega) (by simp; omega), List.getElem?_append_left hlt]

/-- A part of the builder extends the arena and answers an index that is `good` in every tree that has the new nodes, and the
illegal leaf at 0; or it fails for a reason that is `bad`. -/
def Builds (good : Tree → Nat → Prop) (bad : Fault → Prop) (arena : List Node) :
    Except Fault (List Node × Nat) → Prop
  | .ok (arena', i) => arena <+: arena' ∧
      ∀ t : Tree, t.arena[0]? = some treeIllegal → PartFrom arena.length arena' t.arena → good t i
  | .error e => bad e

/-- The index decides, for the candidates `cs`, every word that agrees with them on the tested bits `k`; and none ties. -/
def GoodNode (fuel : Nat) (cs : List Declaration) (k : Opcode) (t : Tree) (i : Nat) : Prop :=
  ∀ w, (∀ d ∈ cs, AgreesOn k w d) → decideFrom t w fuel i = decideSpec cs w ∧ ¬ TieAt cs w

/-- Declarations are ambiguous, and every word that agrees with the candidates on the tested bits has one like it that ties. -/
def BadNode (cs : List Declaration) (k : Opcode) (e : Fault) : Prop :=
  (∃ ms, e = .ambiguousDeclarations ms) ∧
    ∀ w, (∀ d ∈ cs, AgreesOn k w d) → ∃ w', SameOn k w w' ∧ TieAt cs w'

theorem decideFrom_leaf {t : Tree} {i : Nat} {r : DecideResult} (h : t.arena[i]? = some (.leaf r)) (w : Opcode) (fuel : Nat) :
    decideFrom t w (fuel + 1) i = r := by
  simp [decideFrom, decideStep, h]

theorem decideFrom_inl {t : Tree} {w : Opcode} {i j : Nat} (h : decideStep t w i = .inl j) (fuel : Nat) :
    decideFrom t w (fuel + 1) i = decideFrom t w fuel j := by
  simp [decideFrom, h]

/-- A branch and a switch go alike to the child of the group's value. -/
theorem decideStep_mkNode {t : Tree} {i lo n : Nat} {child : List Nat} (h : t.arena[i]? = some (mkNode lo n child))
    (w : Opcode) : decideStep t w i = .inl (child.getD (groupValue w lo n) 0) := by
  by_cases hn : n = 1
  · subst hn
    have hv : groupValue w lo 1 = if w.getLsbD lo then 1 else 0 := by
      have hlt := groupValue_lt w lo 1
      have h0 := testBit_groupValue w lo 1 0
      cases hw : w.getLsbD lo
      all_goals
        simp only [hw, Nat.testBit_zero, Nat.add_zero, Nat.lt_add_one, decide_true, Bool.true_and, decide_eq_true_eq,
          decide_eq_false_iff_not] at h0
        simp
        omega
    cases hw : w.getLsbD lo <;> simp [decideStep, h, mkNode, hv, hw]
  · simp [decideStep, h, mkNode, hn]

/-! ## Leaves (R108 to R110) -/

theorem foldl_max_le (l : List Declaration) (z b : Nat) :
    l.foldl (fun n d => max n d.fixedBits) z ≤ b ↔ z ≤ b ∧ ∀ d ∈ l, d.fixedBits ≤ b := by
  induction l generalizing z with
  | nil => simp
  | cons d l ih => simp [ih, and_assoc]

/-- The top candidates are those that no other one exceeds. -/
theorem mem_topCandidates (cs : List Declaration) (d : Declaration) :
    d ∈ topCandidates cs ↔ d ∈ cs ∧ ∀ e ∈ cs, e.fixedBits ≤ d.fixedBits := by
  have hle (b : Nat) : maxFixedBits cs ≤ b ↔ ∀ e ∈ cs, e.fixedBits ≤ b := by
    rw [maxFixedBits, foldl_max_le]
    simp
  rw [topCandidates, List.mem_filter, beq_iff_eq]
  refine and_congr_right fun hd => ?_
  constructor
  · intro h
    exact (hle _).mp h.ge
  · intro h
    exact Nat.le_antisymm ((hle _).mp le_rfl d hd) ((hle _).mpr h)

theorem builds_illegal {fuel : Nat} {cs : List Declaration} {k : Opcode} {arena : List Node} {bad : Fault → Prop}
    (h : ∀ w, (∀ d ∈ cs, AgreesOn k w d) → decideSpec cs w = .illegal ∧ ¬ TieAt cs w) :
    Builds (GoodNode (fuel + 1) cs k) bad arena (.ok (arena, 0)) := by
  refine ⟨List.prefix_rfl, fun t h0 _ w ha => ?_⟩
  rw [decideFrom_leaf h0 w fuel]
  exact ⟨(h w ha).1.symm, (h w ha).2⟩

theorem builds_newLeaf {fuel : Nat} {cs : List Declaration} {k : Opcode} {arena : List Node} {bad : Fault → Prop}
    {r : DecideResult} (h : ∀ w, (∀ d ∈ cs, AgreesOn k w d) → decideSpec cs w = r ∧ ¬ TieAt cs w) :
    Builds (GoodNode (fuel + 1) cs k) bad arena (.ok (arena ++ [.leaf r], arena.length)) := by
  refine ⟨List.prefix_append _ _, fun t _ hpart w ha => ?_⟩
  have hleaf : t.arena[arena.length]? = some (.leaf r) := by simpa using hpart arena.length le_rfl (by simp)
  rw [decideFrom_leaf hleaf w fuel]
  exact ⟨(h w ha).1.symm, (h w ha).2⟩

theorem not_tieAt_nil (w : Opcode) : ¬ TieAt [] w := by
  rintro ⟨d, hd, -⟩
  cases hd

/-- A single top candidate of declarations that all match is what DecideSpec takes. -/
theorem decideSpec_of_topCandidates {cs : List Declaration} {w : Opcode} {b : Declaration} (hall : matchSet cs w = cs)
    (hb : topCandidates cs = [b]) : decideSpec cs w = resultOf b ∧ ¬ TieAt cs w := by
  have eq_b {d : Declaration} (hd : d ∈ cs) (hmax : ∀ e ∈ cs, e.fixedBits ≤ d.fixedBits) : d = b := by
    simpa [hb] using (mem_topCandidates cs d).mpr ⟨hd, hmax⟩
  have hbmem : b ∈ cs := ((mem_topCandidates cs b).mp (by simp [hb])).1
  constructor
  · cases hm : mostSpecific cs with
    | none =>
      rw [mostSpecific_eq_none hm] at hbmem
      cases hbmem
    | some d =>
      obtain ⟨hd, hmax⟩ := mostSpecific_eq_some hm
      obtain rfl := eq_b hd hmax
      exact decideSpec_of_winner (by rw [winner, hall, hm])
  · rintro ⟨d1, hd1, d2, hd2, hne, heq, hmax⟩
    rw [hall] at hd1 hd2 hmax
    exact hne ((eq_b hd1 hmax).trans (eq_b hd2 fun e he => heq ▸ hmax e he).symm)

/-- A leaf, when all the bits that some candidate fixes are tested. -/
theorem buildLeaf_builds {fuel : Nat} {cs : List Declaration} {k : Opcode} (arena : List Node)
    (hp : ∀ d ∈ cs, d.patternOk = true) (hnodup : cs.Nodup) (hk : someFixed cs k = 0) :
    Builds (GoodNode (fuel + 1) cs k) (BadNode cs k) arena (buildLeaf cs arena) := by
  have hall (w : Opcode) (ha : ∀ d ∈ cs, AgreesOn k w d) : matchSet cs w = cs := matchSet_of_tested hp hk ha
  unfold buildLeaf
  split
  next htop =>
    have hnil : cs = [] := by
      cases hm : mostSpecific cs with
      | none => exact mostSpecific_eq_none hm
      | some d =>
        have := (mem_topCandidates cs d).mpr (mostSpecific_eq_some hm)
        simp [htop] at this
    subst hnil
    exact builds_illegal fun w _ => ⟨decideSpec_of_matchSet_nil rfl, not_tieAt_nil w⟩
  next b htop =>
    have hb (w : Opcode) (ha : ∀ d ∈ cs, AgreesOn k w d) := decideSpec_of_topCandidates (hall w ha) htop
    cases hr : resultOf b with
    | illegal => exact builds_illegal fun w ha => hr ▸ hb w ha
    | decl d => exact builds_newLeaf fun w ha => hr ▸ hb w ha
    | nop d => exact builds_newLeaf fun w ha => hr ▸ hb w ha
  next b1 b2 bs htop =>
    refine ⟨⟨_, rfl⟩, fun w ha => ⟨w, fun _ _ => rfl, ?_⟩⟩
    obtain ⟨h1, hmax1⟩ := (mem_topCandidates cs b1).mp (by simp [htop])
    obtain ⟨h2, hmax2⟩ := (mem_topCandidates cs b2).mp (by simp [htop])
    have hne : b1 ≠ b2 := by
      have : (topCandidates cs).Nodup := hnodup.filter _
      rw [htop] at this
      simp only [List.nodup_cons, List.mem_cons, not_or] at this
      exact this.1.1
    rw [TieAt, hall w ha]
    exact ⟨b1, h1, b2, h2, hne, Nat.le_antisymm (hmax2 b1 h1) (hmax1 b2 h2), hmax1⟩

/-! ## Internal nodes (R104, R105) -/

/-- The children are built one after another; each is good in every tree that has the nodes of all. -/
theorem buildChildren_builds {mk : Nat → List Node → Except Fault (List Node × Nat)} {good : Nat → Tree → Nat → Prop}
    {bad : Fault → Prop} (n v : Nat) (hmk : ∀ u, v ≤ u → u < v + n → ∀ ar, Builds (good u) bad ar (mk u ar))
    (arena : List Node) :
    (∃ arena' child, buildChildren mk n v arena = .ok (arena', child) ∧ arena <+: arena' ∧
      ∀ t : Tree, t.arena[0]? = some treeIllegal → PartFrom arena.length arena' t.arena →
        ∀ j < n, good (v + j) t (child.getD j 0)) ∨
    ∃ e, buildChildren mk n v arena = .error e ∧ bad e := by
  induction n generalizing v arena with
  | zero => exact .inl ⟨arena, [], rfl, List.prefix_rfl, fun _ _ _ j hj => absurd hj (Nat.not_lt_zero j)⟩
  | succ n ih =>
    have hfirst := hmk v le_rfl (by omega) arena
    unfold buildChildren
    cases hc : mk v arena with
    | error e =>
      rw [hc] at hfirst
      exact .inr ⟨e, rfl, hfirst⟩
    | ok r =>
      obtain ⟨arena1, c⟩ := r
      rw [hc] at hfirst
      obtain ⟨hpre1, hgood1⟩ := hfirst
      obtain ⟨arena2, cs, hrest, hpre2, hgood2⟩ | ⟨e, hrest, hbad⟩ :=
        ih (v + 1) (fun u hu hlt => hmk u (by omega) (by omega)) arena1
      · refine .inl ⟨arena2, c :: cs, by simp only [hrest], hpre1.trans hpre2, fun t h0 hpart j hj => ?_⟩
        cases j with
        | zero => exact hgood1 t h0 (hpart.of_prefix le_rfl hpre2)
        | succ j =>
          have := hgood2 t h0 (hpart.of_prefix hpre1.length_le List.prefix_rfl) j (by omega)
          simpa [Nat.add_assoc, Nat.add_comm 1 j] using this
      · exact .inr ⟨e, by simp only [hrest], hbad⟩

/-- A child that is good or bad for its candidates is so for the parent's candidates and the words with its value. -/
theorem GoodNode.of_child {fuel : Nat} {cs : List Declaration} {k w : Opcode} {lo n : Nat} {t : Tree} {i : Nat}
    (hg : IsGroup k lo n) (hp : ∀ d ∈ cs, d.patternOk = true) (ha : ∀ d ∈ cs, AgreesOn k w d)
    (h : GoodNode fuel (childCandidates cs lo (groupValue w lo n) (groupMask lo n)) (k ||| groupMask lo n) t i) :
    decideFrom t w fuel i = decideSpec cs w ∧ ¬ TieAt cs w := by
  have hms := matchSet_childCandidates (w := w) hg hp
  obtain ⟨hdec, htie⟩ := h w (agreesOn_childCandidates hg ha)
  exact ⟨hdec.trans (decideSpec_congr hms), fun ht => htie ((TieAt.congr hms).mpr ht)⟩

theorem BadNode.of_child {cs : List Declaration} {k : Opcode} {lo n v : Nat} {e : Fault} (hg : IsGroup k lo n)
    (hp : ∀ d ∈ cs, d.patternOk = true) (hv : v < 2 ^ n)
    (h : BadNode (childCandidates cs lo v (groupMask lo n)) (k ||| groupMask lo n) e) : BadNode cs k e := by
  refine ⟨h.1, fun w ha => ?_⟩
  have hsame := sameOn_putGroup hg v w
  have hval := groupValue_putGroup hg hv w
  have hagree := agreesOn_childCandidates hg fun d hd => (ha d hd).of_sameOn hsame
  rw [hval] at hagree
  obtain ⟨w', hw', htie⟩ := h.2 _ hagree
  have hor (i : Nat) (hi : k.getLsbD i = true ∨ (groupMask lo n).getLsbD i = true) :
      (putGroup lo n v w).getLsbD i = w'.getLsbD i := hw' i (by rwa [BitVec.getLsbD_or, Bool.or_eq_true])
  have hval' : groupValue w' lo n = v := by
    refine Eq.trans (Nat.eq_of_testBit_eq fun j => ?_) hval
    simp only [testBit_groupValue]
    by_cases hj : j < n
    · rw [hor (lo + j) (.inr ((hg.getLsbD_mask _).mpr ⟨by omega, by omega⟩))]
    · simp [hj]
  refine ⟨w', fun i hi => (hsame i hi).trans (hor i (.inl hi)), ?_⟩
  have hms := matchSet_childCandidates (w := w') hg hp
  rw [hval'] at hms
  exact (TieAt.congr hms).mp htie

/-- A node over a group, whose children are built good or fail bad. -/
theorem builds_group {fuel : Nat} {cs : List Declaration} {k : Opcode} {lo n : Nat} (arena : List Node)
    (hg : IsGroup k lo n) (hp : ∀ d ∈ cs, d.patternOk = true)
    {mk : Nat → List Node → Except Fault (List Node × Nat)}
    (hmk : ∀ v ar, Builds (GoodNode fuel (childCandidates cs lo v (groupMask lo n)) (k ||| groupMask lo n))
      (BadNode (childCandidates cs lo v (groupMask lo n)) (k ||| groupMask lo n)) ar (mk v ar)) :
    Builds (GoodNode (fuel + 1) cs k) (BadNode cs k) arena
      (match buildChildren mk (2 ^ n) 0 (arena ++ [.leaf .illegal]) with
        | .error e => .error e
        | .ok (arena1, child) => .ok (arena1.set arena.length (mkNode lo n child), arena.length)) := by
  have hmk' : ∀ u, 0 ≤ u → u < 0 + 2 ^ n → ∀ ar,
      Builds (GoodNode fuel (childCandidates cs lo u (groupMask lo n)) (k ||| groupMask lo n)) (BadNode cs k) ar (mk u ar) := by
    intro u _ hu ar
    have h := hmk u ar
    cases hm : mk u ar with
    | ok r => rwa [hm] at h
    | error e =>
      rw [hm] at h
      exact BadNode.of_child hg hp (by omega) h
  obtain ⟨arena1, child, hbuild, ⟨l, hl⟩, hgood⟩ | ⟨e, hbuild, hbad⟩ :=
    buildChildren_builds (2 ^ n) 0 hmk' (arena ++ [.leaf .illegal])
  · have hset : arena1.set arena.length (mkNode lo n child) = arena ++ mkNode lo n child :: l := by
      rw [← hl]
      simp
    simp only [hbuild, hset]
    refine ⟨List.prefix_append _ _, fun t h0 hpart w ha => ?_⟩
    have hnode : t.arena[arena.length]? = some (mkNode lo n child) := by simpa using hpart arena.length le_rfl (by simp)
    have hrest : PartFrom (arena ++ [Node.leaf .illegal]).length arena1 t.arena := by
      intro j hj hlt
      simp only [← hl, List.length_append, List.length_cons, List.length_nil] at hj hlt
      rw [hpart j (by omega) (by simp; omega), ← hl, List.append_assoc, List.getElem?_append_right (by omega),
        List.getElem?_append_right (by omega), List.singleton_append, List.getElem?_cons, List.getElem?_cons,
        if_neg (by omega), if_neg (by omega)]
    rw [decideFrom_inl (decideStep_mkNode hnode w)]
    have := hgood t h0 hrest _ (groupValue_lt w lo n)
    rw [Nat.zero_add] at this
    exact GoodNode.of_child hg hp ha this
  · simp only [hbuild]
    exact hbad

/-- `node(C, K)`: each level tests at least one more bit, so the fuel lasts (R111). -/
theorem buildNode_builds {cap : Nat} (hcap : 0 < cap) (fuel : Nat) (cs : List Declaration) (k : Opcode) (arena : List Node)
    (hfuel : untested k < fuel) (hp : ∀ d ∈ cs, d.patternOk = true) (hnodup : cs.Nodup) :
    Builds (GoodNode fuel cs k) (BadNode cs k) arena (buildNode cap fuel cs k arena) := by
  induction fuel generalizing cs k arena with
  | zero => omega
  | succ fuel ih =>
    unfold buildNode
    split
    next hempty =>
      obtain rfl := List.isEmpty_iff.mp hempty
      exact builds_illegal fun w _ => ⟨decideSpec_of_matchSet_nil rfl, not_tieAt_nil w⟩
    next =>
    split
    next hk => exact buildLeaf_builds arena hp hnodup hk
    next hk =>
      have hg : IsGroup k _ _ := isGroup_lowestRun
        (s := if allFixed cs k = 0 then someFixed cs k else allFixed cs k) (k := k)
        (cap := if allFixed cs k = 0 then 1 else cap)
        (by split <;> assumption)
        (fun i hi => by
          split at hi
          · obtain ⟨_, _, _, h⟩ := (getLsbD_someFixed cs k i).mp hi
            exact h
          · exact getLsbD_allFixed hi)
        (by split <;> omega)
      refine builds_group arena hg hp fun v ar => ih _ _ ar ?_ (fun d hd => hp d (List.mem_filter.mp hd).1) (hnodup.filter _)
      have := hg.untested_lt
      omega

/-! ## BUILD (R100 to R102) -/

/-- The three reasons for which BUILD fails. -/
def BuildRejects (ds : List Declaration) : Prop :=
  (∃ d ∈ ds, d.wf = false) ∨ variantSetWf ds = false ∨ Ambiguous ds

/-- A fatal reason that BUILD reports: not one of the two that STARTUP adds (45_host_operations.md R170). -/
def IsBuildFault (e : Fault) : Prop := (∀ m, e ≠ .missingHandler m) ∧ e ≠ .nonConforming

theorem patternOk_of_wf {d : Declaration} (h : d.wf = true) : d.patternOk = true := by
  simp only [Declaration.wf, Bool.and_eq_true] at h
  obtain ⟨⟨⟨⟨⟨⟨⟨-, hp⟩, -⟩, -⟩, -⟩, -⟩, -⟩, -⟩ := h
  exact hp

theorem nodup_of_distinctMnemonics {ds : List Declaration} (h : distinctMnemonics ds = true) : ds.Nodup := by
  induction ds with
  | nil => exact List.nodup_nil
  | cons d ds ih =>
    simp only [distinctMnemonics, Bool.and_eq_true, List.all_eq_true, bne_iff_ne] at h
    exact List.nodup_cons.mpr ⟨fun hd => h.1 d hd rfl, ih h.2⟩

/-- Everything that BUILD can do: a tree that decides as DecideSpec does, for a set that it accepts; or one of the three failures. -/
theorem buildWith_cases {cap : Nat} (hcap : 0 < cap) (ds : List Declaration) :
    (∃ t, buildWith cap ds = .ok t ∧ ¬ BuildRejects ds ∧ ∀ w, decideTree t w = decideSpec ds w) ∨
      ∃ e, buildWith cap ds = .error e ∧ IsBuildFault e ∧ BuildRejects ds := by
  unfold buildWith
  split
  next d hfind =>
    have hbad : d.wf = false := by simpa using List.find?_some hfind
    exact .inr ⟨_, rfl, ⟨nofun, nofun⟩, .inl ⟨d, List.mem_of_find?_eq_some hfind, hbad⟩⟩
  next hfind =>
    have hwf : ∀ d ∈ ds, d.wf = true := by simpa using hfind
    split
    next hset =>
      have hnodup : ds.Nodup := by
        rw [variantSetWf, Bool.and_eq_true] at hset
        exact nodup_of_distinctMnemonics hset.1
      have hbuilds := buildNode_builds hcap 33 ds 0 [treeIllegal] (by rw [untested_zero]; omega)
        (fun d hd => patternOk_of_wf (hwf d hd)) hnodup
      have hagree (w : Opcode) : ∀ d ∈ ds, AgreesOn 0 w d := fun d _ i hi => by simp at hi
      unfold treeIllegal at hbuilds
      cases hb : buildNode cap 33 ds 0 [.leaf .illegal] with
      | ok r =>
        obtain ⟨arena, root⟩ := r
        rw [hb] at hbuilds
        obtain ⟨⟨l, rfl⟩, hgood⟩ := hbuilds
        have hdec := hgood ⟨[.leaf .illegal] ++ l, root⟩ rfl fun _ _ _ => rfl
        refine .inl ⟨_, rfl, ?_, fun w => (hdec w (hagree w)).1⟩
        rintro (⟨d, hd, hbad⟩ | hbad | ⟨w, htie⟩)
        · rw [hwf d hd] at hbad
          cases hbad
        · rw [hset] at hbad
          cases hbad
        · exact (hdec w (hagree w)).2 htie
      | error e =>
        rw [hb] at hbuilds
        obtain ⟨⟨ms, rfl⟩, htie⟩ := hbuilds
        obtain ⟨w, -, hw⟩ := htie 0 (hagree 0)
        exact .inr ⟨_, rfl, ⟨nofun, nofun⟩, .inr (.inr ⟨w, hw⟩)⟩
    next hset => exact .inr ⟨_, rfl, ⟨nofun, nofun⟩, .inr (.inl (by simpa using hset))⟩

theorem build_cases (ds : List Declaration) :
    (∃ t, build ds = .ok t ∧ ¬ BuildRejects ds ∧ ∀ w, decideTree t w = decideSpec ds w) ∨
      ∃ e, build ds = .error e ∧ IsBuildFault e ∧ BuildRejects ds :=
  buildWith_cases (cap := Config.switchMaxBits) (by decide) ds

/-- Settles O2: of the two things that BUILD can do, it answered a tree. -/
theorem builtTreeDecidesAsSpecified : Obligations.BuiltTreeDecidesAsSpecified := by
  unfold Obligations.BuiltTreeDecidesAsSpecified
  intro cap ds t hcap ht w
  obtain ⟨u, hu, -, hdec⟩ | ⟨e, he, -⟩ := buildWith_cases hcap ds
  · obtain rfl : t = u := Except.ok.inj (ht.symm.trans hu)
    exact hdec w
  · rw [ht] at he
    cases he

theorem decideTree_of_build {ds : List Declaration} {t : Tree} (h : build ds = .ok t) (w : Opcode) :
    decideTree t w = decideSpec ds w :=
  builtTreeDecidesAsSpecified Config.switchMaxBits ds t (by decide) h w

/-- Settles O4: the reference trees are what BUILD makes of the reference set. -/
theorem referenceTreesDecideAsSpecified : Obligations.ReferenceTreesDecideAsSpecified := by
  unfold Obligations.ReferenceTreesDecideAsSpecified
  exact fun w => ⟨decideTree_of_build build_refDecls32 w, decideTree_of_build build_refDecls64 w⟩

end Sys2Proof.Machine
end

section
/-! PROOFS. The stages of the dispatch loop one by one, for any collaborators (44_dispatch_loop.md R141 to R163). -/

namespace Sys2Proof.Machine

open Sys2Proof.Claims

/-! ## The start of a pass (R141, R142) -/

@[simp] theorem fromExecute_refused (c : Collaborators) (r : Refusal) : fromExecute c (.refused r) = .refused r := rfl

theorem startStage_notIdle {s : State} (h : s.phase ≠ .idle) : startStage s = .refused .notIdle := if_pos h

theorem startStage_odd {s : State} (h : s.phase = .idle) (hodd : isOdd s.cpu.pc = true) : startStage s = .refused .oddPc := by
  simp [startStage, h, hodd]

theorem startStage_breakpoint {s : State} (h : s.phase = .idle) (heven : isOdd s.cpu.pc = false)
    (hbp : breakpointAt s.bp s.cpu.pc = true) :
    startStage s = .next { latched s with outcome := some (.breakpointHit s.cpu.pc) } := by
  simp [startStage, h, heven, hbp, latched]

theorem pass_of_startStage_refused {s : State} {r : Refusal} (c : Collaborators) (h : startStage s = .refused r) :
    pass c s = .refused r := by
  simp only [pass, beforeExecute, h, continueAt_refused, fromExecute_refused]

/-- No pass starts outside IDLE (R177). -/
theorem pass_notIdle (c : Collaborators) {s : State} (h : s.phase ≠ .idle) : pass c s = .refused .notIdle :=
  pass_of_startStage_refused c (startStage_notIdle h)

/-- Settles O10: the start of the pass refuses, and with it the pass. -/
theorem oddPcIsRefused : Obligations.OddPcIsRefused := by
  unfold Obligations.OddPcIsRefused
  exact fun c s => ⟨fun hp hodd => pass_of_startStage_refused c (startStage_odd hp hodd), pass_notIdle c⟩

/-- A pass whose start leaves it in IDLE is over. -/
theorem pass_of_startStage_idle {s t : State} (c : Collaborators) (h : startStage s = .next t) (ht : t.phase = .idle) :
    pass c s = .next t := by
  simp [pass, beforeExecute, fromExecute, h, continueAt, ht]

/-- Settles O11: the pass ends where it starts. -/
theorem breakpointStopsBeforeAnySideEffect : Obligations.BreakpointStopsBeforeAnySideEffect := by
  unfold Obligations.BreakpointStopsBeforeAnySideEffect
  intro c s hp heven hbp
  exact ⟨_, pass_of_startStage_idle c (startStage_breakpoint hp heven hbp) hp, rfl, rfl, rfl, hp, rfl, rfl, rfl, rfl, rfl⟩

/-- The state in which FETCH begins. -/
def started (s : State) : State := { latched s with phase := .fetch, outcome := none }

theorem startStage_of_starts {s : State} (h : Starts s) : startStage s = .next (started s) := by
  obtain ⟨hp, heven, hbp⟩ := h
  exact startStage_fetch s hp heven hbp

/-! ## How the stages nest (R163) -/

/-- Two stages in a row: where the first leaves the pass in its own phase or in IDLE, the second may be taken inside the first. -/
theorem continueAt_continueAt {c : Collaborators} {p q : Phase} {s : State} {o : Result} (f g : State → Result)
    (h : ReachesOrEnds c p s o) (hp : p ≠ .idle) (hq : q ≠ .idle) :
    continueAt q g (continueAt p f o) = continueAt p (fun t => continueAt q g (f t)) o := by
  cases o with
  | next t =>
    obtain ⟨hpt | hidle, -, -⟩ := h
    · rw [continueAt_same _ _ _ hpt, continueAt_same _ _ _ hpt]
    · rw [continueAt_other p f t (by rw [hidle]; exact hp.symm), continueAt_other p _ t (by rw [hidle]; exact hp.symm),
        continueAt_other q g t (by rw [hidle]; exact hq.symm)]
  | fault r => rfl
  | refused r => rfl

/-- The rest of a pass from EXECUTE, EXTRACT-ARGS, DECODE and FETCH on. -/
def restExecute (c : Collaborators) (s : State) : Result := continueAt .update updateStage (executeStage c s)
def restExtract (c : Collaborators) (s : State) : Result := continueAt .execute (restExecute c) (extractStage s)
def restDecode (c : Collaborators) (s : State) : Result := continueAt .extract (restExtract c) (decodeStage c s)
def restFetch (c : Collaborators) (s : State) : Result := continueAt .decode (restDecode c) (fetchStage c s)

/-- From EXECUTE on, of what EXTRACT-ARGS left. -/
theorem fromExecute_of_reaches {c : Collaborators} {s : State} {o : Result} (h : ReachesOrEnds c .execute s o) :
    fromExecute c o = continueAt .execute (restExecute c) o :=
  continueAt_continueAt _ _ h (by decide) (by decide)

/-- A pass, each stage taken inside the one before it. -/
theorem pass_eq_nested (c : Collaborators) (s : State) : pass c s = continueAt .fetch (restFetch c) (startStage s) := by
  have hstart := startStage_reachesOrEnds c s
  have hfetch := hstart.continueAt (fetchStage_reachesOrEnds c)
  have hdecode := hfetch.continueAt (decodeStage_reachesOrEnds c)
  have hextract := hdecode.continueAt (extractStage_reachesOrEnds c)
  have h3 := continueAt_continueAt (q := .execute) extractStage (restExecute c) hdecode (by decide) (by decide)
  have h2 := continueAt_continueAt (q := .extract) (decodeStage c) (restExtract c) hfetch (by decide) (by decide)
  have h1 := continueAt_continueAt (q := .decode) (fetchStage c) (restDecode c) hstart (by decide) (by decide)
  calc pass c s
    _ = continueAt .execute (restExecute c) (beforeExecute c s) := fromExecute_of_reaches hextract
    _ = continueAt .extract (restExtract c) (continueAt .decode (decodeStage c) (continueAt .fetch (fetchStage c) (startStage s))) := h3
    _ = continueAt .decode (restDecode c) (continueAt .fetch (fetchStage c) (startStage s)) := h2
    _ = continueAt .fetch (restFetch c) (startStage s) := h1

theorem pass_of_starts (c : Collaborators) {s : State} (h : Starts s) : pass c s = restFetch c (started s) := by
  rw [pass_eq_nested, startStage_of_starts h, continueAt_same .fetch _ _ rfl]

/-- One more transition, then the rest of the pass. -/
theorem transitions_succ {c : Collaborators} {n : Nat} {p : Phase} {s s0 : State} {rest : State → Result}
    (h : ReachesOrEnds c p s0 (transition c s)) (hp : p ≠ .idle)
    (hrest : ∀ t, t.phase = p → transitions c n t = rest t) :
    transitions c (n + 1) s = continueAt p rest (transition c s) := by
  unfold transitions
  cases ho : transition c s with
  | next t =>
    rw [ho] at h
    obtain ⟨hpt | hidle, -, -⟩ := h
    · rw [continueAt_same _ _ _ hpt]
      simp only [hpt, if_neg hp, hrest t hpt]
    · rw [continueAt_other _ _ _ (by rw [hidle]; exact hp.symm)]
      simp only [hidle, if_true]
  | fault r => rfl
  | refused r => rfl

/-- The last transition. -/
theorem transitions_update {c : Collaborators} {s : State} (h : s.phase = .update) : transitions c 1 s = updateStage s := by
  have hend := updateStage_reachesOrEnds c s
  simp only [transitions, transition, h]
  cases ho : updateStage s with
  | next t =>
    rw [ho] at hend
    obtain ⟨hp, -, -⟩ := hend
    simp [hp.elim id id]
  | fault r => rfl
  | refused r => rfl

/-- Settles O9: each transition reaches the phase of the next stage or ends the pass, so the six of them nest as the stages do. -/
theorem passIsTheTransitionTable : Obligations.PassIsTheTransitionTable := by
  unfold Obligations.PassIsTheTransitionTable
  intro c s hp
  have execute : ∀ t : State, t.phase = .execute → transitions c 2 t = restExecute c t := fun t ht => by
    have htr : transition c t = executeStage c t := by simp only [transition, ht]
    rw [transitions_succ (htr ▸ executeStage_reachesOrEnds c t) (by decide) fun _ => transitions_update, htr, restExecute]
  have extract : ∀ t : State, t.phase = .extract → transitions c 3 t = restExtract c t := fun t ht => by
    have htr : transition c t = extractStage t := by simp only [transition, ht]
    rw [transitions_succ (htr ▸ extractStage_reachesOrEnds c t) (by decide) execute, htr, restExtract]
  have decode : ∀ t : State, t.phase = .decode → transitions c 4 t = restDecode c t := fun t ht => by
    have htr : transition c t = decodeStage c t := by simp only [transition, ht]
    rw [transitions_succ (htr ▸ decodeStage_reachesOrEnds c t) (by decide) extract, htr, restDecode]
  have fetch : ∀ t : State, t.phase = .fetch → transitions c 5 t = restFetch c t := fun t ht => by
    have htr : transition c t = fetchStage c t := by simp only [transition, ht]
    rw [transitions_succ (htr ▸ fetchStage_reachesOrEnds c t) (by decide) decode, htr, restFetch]
  have htr : transition c s = startStage s := by simp only [transition, hp]
  rw [transitions_succ (htr ▸ startStage_reachesOrEnds c s) (by decide) fetch, htr, pass_eq_nested]

/-! ## Traps (R160) -/

/-- Raising a trap is a delivery on the CPU state with `pc` back at `pc0`, after the calls made so far. -/
theorem raiseTrap_delivers (c : Collaborators) (k : TrapKind) (v : Word) (s : State) :
    Delivers c (raiseTrap c.deliver k v s) k v { s.cpu with pc := s.lat.pc0 } s.calls := by
  unfold Delivers
  obtain ⟨u, hd, h⟩ | ⟨hd, h⟩ | ⟨hd, h⟩ := raiseTrap_cases c.deliver k v s
  · simp only [hd, h]
    exact ⟨_, rfl, rfl, rfl, rfl, rfl⟩
  · simp only [hd, h]
  · simp only [hd, h]

/-- A trap ends the pass in whatever stage it is raised. -/
theorem continueAt_raiseTrap {p : Phase} (hp : p ≠ .idle) (f : State → Result) (dlv : TrapKind → Word → Cpu → Reply Cpu)
    (k : TrapKind) (v : Word) (s : State) : continueAt p f (raiseTrap dlv k v s) = raiseTrap dlv k v s := by
  obtain ⟨u, -, h⟩ | ⟨-, h⟩ | ⟨-, h⟩ := raiseTrap_cases dlv k v s
  · rw [h, continueAt_other _ _ _ hp.symm]
  · rw [h, continueAt_fault]
  · rw [h, continueAt_refused]

/-! ## FETCH (R143 to R147) -/

theorem crossesPage_iff (pageSize : Nat) (a : Word) : crossesPage pageSize a = true ↔ a.toNat % pageSize = pageSize - 2 := by
  simp [crossesPage]

/-- The first translation fails. -/
theorem fetchStage_fault {c : Collaborators} {s : State} {k : FetchTag} (h : c.translate s.cpu s.lat.pc0 = .error k) :
    fetchStage c s = raiseTrap c.deliver (.instructionFetchFault k) s.lat.pc0 (noteCall (.translate s.lat.pc0) s) := by
  simp only [fetchStage, h]

/-- The state after the first half-word is read. -/
def firstRead (s : State) : State := noteCall (.readHalf s.lat.pc0) (noteCall (.translate s.lat.pc0) s)

/-- The state after the second half-word's page is translated. -/
def secondTranslated (s : State) : State := noteCall (.translate (s.lat.pc0 + 2)) (firstRead s)

section
variable {c : Collaborators} {s : State} {e : Nat} (h : c.translate s.cpu s.lat.pc0 = .ok e)
include h

/-- A 2-byte form. -/
theorem fetchStage_short (hl : isLong (c.readHalf s.cpu e s.lat.pc0) = false) :
    fetchStage c s = .next (fetchedShort (c.readHalf s.cpu e s.lat.pc0) (firstRead s)) := by
  simp [fetchStage, h, hl, firstRead]

/-- A 4-byte form in one page. -/
theorem fetchStage_samePage (hl : isLong (c.readHalf s.cpu e s.lat.pc0) = true)
    (hc : crossesPage c.pageSize s.lat.pc0 = false) :
    fetchStage c s = .next (fetchSecond c (c.readHalf s.cpu e s.lat.pc0) e (s.lat.pc0 + 2) (firstRead s)) := by
  simp [fetchStage, h, hl, hc, firstRead]

/-- A 4-byte form across two pages, both mapped. -/
theorem fetchStage_crossing {e2 : Nat} (hl : isLong (c.readHalf s.cpu e s.lat.pc0) = true)
    (hc : crossesPage c.pageSize s.lat.pc0 = true) (h2 : c.translate s.cpu (s.lat.pc0 + 2) = .ok e2) :
    fetchStage c s = .next (fetchSecond c (c.readHalf s.cpu e s.lat.pc0) e2 (s.lat.pc0 + 2) (secondTranslated s)) := by
  simp only [fetchStage, h, hl, hc, h2, if_true]
  rfl

/-- A 4-byte form across two pages, the second not mapped. -/
theorem fetchStage_crossing_fault {k : FetchTag} (hl : isLong (c.readHalf s.cpu e s.lat.pc0) = true)
    (hc : crossesPage c.pageSize s.lat.pc0 = true) (h2 : c.translate s.cpu (s.lat.pc0 + 2) = .error k) :
    fetchStage c s = raiseTrap c.deliver (.instructionFetchFault k) (s.lat.pc0 + 2) (secondTranslated s) := by
  simp only [fetchStage, h, hl, hc, h2, if_true]
  rfl

end

/-- Settles O12: FETCH raises the trap, and that ends the pass. -/
theorem fetchFaultAtEitherHalfTrapsAtPc : Obligations.FetchFaultAtEitherHalfTrapsAtPc := by
  unfold Obligations.FetchFaultAtEitherHalfTrapsAtPc
  intro c s k hs
  have hpass {k : TrapKind} {v : Word} {u : State}
      (h : fetchStage c (started s) = raiseTrap c.deliver k v u) : pass c s = raiseTrap c.deliver k v u := by
    rw [pass_of_starts c hs, restFetch, h, continueAt_raiseTrap (by decide)]
  constructor
  · intro h
    rw [hpass (fetchStage_fault (s := started s) h)]
    exact raiseTrap_delivers c _ _ _
  · intro e h hl hc h2
    rw [hpass (fetchStage_crossing_fault (s := started s) h hl ((crossesPage_iff _ _).mpr hc) h2)]
    exact raiseTrap_delivers c _ _ _

theorem isLong_iff (lo : Half) : isLong lo = true ↔ lo.toNat % 4 = 3 := by
  rw [isLong, beq_iff_eq, ← BitVec.toNat_inj, BitVec.toNat_and]
  exact Eq.congr_left (Nat.and_two_pow_sub_one_eq_mod lo.toNat 2)

theorem toNat_shortOpcode (lo : Half) : (shortOpcode lo).toNat = lo.toNat := by
  have := lo.isLt
  rw [shortOpcode, BitVec.toNat_setWidth, Nat.mod_eq_of_lt (by omega)]

theorem toNat_longOpcode (lo hi : Half) : (longOpcode lo hi).toNat = hi.toNat * 65536 + lo.toNat := by
  rw [longOpcode, BitVec.toNat_append, ← Nat.shiftLeft_add_eq_or_of_lt lo.isLt, Nat.shiftLeft_eq]

/-- Settles O13: the three ways in which FETCH completes. -/
theorem fetchAssemblesTheOpcode : Obligations.FetchAssemblesTheOpcode := by
  unfold Obligations.FetchAssemblesTheOpcode
  intro c s e h
  refine ⟨fun hlo => ?_, fun hlo hpage => ?_, fun hlo hpage e2 h2 => ?_⟩
  · have hl : isLong (c.readHalf s.cpu e s.lat.pc0) = false := by
      rwa [Bool.eq_false_iff, ne_eq, isLong_iff]
    exact ⟨_, fetchStage_short h hl, toNat_shortOpcode _, rfl, rfl, rfl, by simp [firstRead]⟩
  · have hc : crossesPage c.pageSize s.lat.pc0 = false := by
      rwa [Bool.eq_false_iff, ne_eq, crossesPage_iff]
    exact ⟨_, fetchStage_samePage h ((isLong_iff _).mpr hlo) hc, toNat_longOpcode _ _, rfl, rfl, rfl,
      by simp [fetchSecond, firstRead]⟩
  · exact ⟨_, fetchStage_crossing h ((isLong_iff _).mpr hlo) ((crossesPage_iff _ _).mpr hpage) h2, toNat_longOpcode _ _, rfl, rfl,
      rfl, by simp [fetchSecond, firstRead, secondTranslated]⟩

/-! ## DECODE (R148 to R150) -/

section
variable {s : State} (c : Collaborators)

theorem decodeStage_illegal (h : decideTree (treeOf s s.lat.xlen0) s.lat.opcode = .illegal) :
    decodeStage c s = raiseTrap c.deliver .illegalInstruction (s.lat.opcode.setWidth 64) (setRes .illegal s) := by
  simp only [decodeStage, h]

theorem decodeStage_nop {d : Declaration} (h : decideTree (treeOf s s.lat.xlen0) s.lat.opcode = .nop d) :
    decodeStage c s = .next (retire (advance d.width (setRes (.nop d) s))) := by
  simp only [decodeStage, h]

theorem decodeStage_decl {d : Declaration} (h : decideTree (treeOf s s.lat.xlen0) s.lat.opcode = .decl d) :
    decodeStage c s = .next { setRes (.decl d) s with phase := .extract } := by
  simp only [decodeStage, h]

end

/-- Settles O15: DECODE raises the trap of an illegal result. -/
theorem illegalOpcodeTrapsWithTheOpcode : Obligations.IllegalOpcodeTrapsWithTheOpcode := by
  unfold Obligations.IllegalOpcodeTrapsWithTheOpcode
  intro c s h
  rw [decodeStage_illegal c h]
  exact raiseTrap_delivers c _ _ _

/-- Settles O16: DECODE advances past a no-op leaf and retires. -/
theorem nopLeafOnlyAdvances : Obligations.NopLeafOnlyAdvances := by
  unfold Obligations.NopLeafOnlyAdvances
  intro c s d h
  exact ⟨_, decodeStage_nop c h, rfl, rfl, rfl, rfl⟩

/-! ## EXTRACT-ARGS (R151, R152) -/

theorem extractStage_bound {s : State} {d : Declaration} {b : Binding} (hr : s.lat.res = .decl d)
    (hb : bindOf s.bind d.mnemonic = some b) :
    extractStage s = .next { s with phase := .execute, lat := { s.lat with args := argsFor b d s.lat.opcode s.lat.pc0 } } := by
  simp [extractStage, hr, hb]

/-- The arguments: one operand for each field, then what the handler's flags ask for. -/
theorem argsFor_take (b : Binding) (d : Declaration) (w : Opcode) (pc0 : Word) :
    (argsFor b d w pc0).take d.fields.length = apply d w := by
  rw [argsFor, List.append_assoc, List.take_left' (by simp [apply])]

theorem argsFor_drop (b : Binding) (d : Declaration) (w : Opcode) (pc0 : Word) :
    (argsFor b d w pc0).drop d.fields.length =
      (if b.needsWidth then [widthWord d.width] else []) ++ (if b.needsPc then [pc0] else []) := by
  rw [argsFor, List.append_assoc, List.drop_left' (by simp [apply])]

/-- Settles O17: the operands are as many as the fields; the rest follows the two flags. -/
theorem appendedParametersFollowTheFlags : Obligations.AppendedParametersFollowTheFlags := by
  unfold Obligations.AppendedParametersFollowTheFlags
  intro s d b hr hb
  refine ⟨_, extractStage_bound hr hb, rfl, rfl, argsFor_take b d _ _, (argsFor_drop b d _ _).trans ?_⟩
  cases b.needsWidth <;> cases b.needsPc <;> rfl

/-! ## EXECUTE and UPDATE-PC (R153 to R160) -/

/-- Settles O18: the loop raises the handler's trap on the CPU state that the handler left. -/
theorem raisingHandlerIsRolledBackThenDelivered : Obligations.RaisingHandlerIsRolledBackThenDelivered := by
  unfold Obligations.RaisingHandlerIsRolledBackThenDelivered
  intro c s d b k v u hp hr hb hh
  rw [fromExecute_bound c hp hr hb, hh, afterCall_returns, takeAnswer, continueAt_raiseTrap (by decide)]
  exact raiseTrap_delivers c _ _ _

/-- Settles O19: the loop advances after SEQ, whatever the handler left in `pc`. -/
theorem sequentialInstructionAdvances : Obligations.SequentialInstructionAdvances := by
  unfold Obligations.SequentialInstructionAdvances
  intro c s d b taken u hp hr hb hk hh
  obtain ⟨t, ht, hcpu, hend⟩ := fromExecute_done_retires hp hr hb hh
  refine ⟨t, ht, ?_, hend⟩
  rw [hcpu, hk]
  rfl

end Sys2Proof.Machine
end

section
/-! PROOFS. What a whole pass keeps and records (44_dispatch_loop.md R148; 20_memory.md R40). -/

namespace Sys2Proof.Machine

open Sys2Proof.Claims

/-! ## What holds of every next state -/

/-- The property holds of the next state, if there is one. -/
def Post (P : State → Prop) (o : Result) : Prop := ∀ t, o = .next t → P t

theorem Post.next {P : State → Prop} {s : State} (h : P s) : Post P (.next s) := by
  rintro t ⟨⟩
  exact h

theorem Post.fault (P : State → Prop) (r : Fault) : Post P (.fault r) := fun _ h => by cases h

theorem Post.refused (P : State → Prop) (r : Refusal) : Post P (.refused r) := fun _ h => by cases h

/-- From the property of the states before a stage to that of the states after it. -/
theorem Post.continueAt {P Q : State → Prop} {p : Phase} {f : State → Result} {o : Result} (h : Post P o)
    (hf : ∀ t, t.phase = p → P t → Post Q (f t)) (hother : ∀ t, t.phase ≠ p → P t → Q t) :
    Post Q (continueAt p f o) := by
  cases o with
  | next s =>
    have hs := h s rfl
    by_cases hp : s.phase = p
    · rw [continueAt_same _ _ _ hp]
      exact hf s hp hs
    · rw [continueAt_other _ _ _ hp]
      exact .next (hother s hp hs)
  | fault r => exact .fault Q r
  | refused r => exact .refused Q r

theorem Post.raiseTrap {P : State → Prop} {dlv : TrapKind → Word → Cpu → Reply Cpu} {k : TrapKind} {v : Word} {s : State}
    (h : ∀ u, P { s with
      cpu := u
      phase := .idle
      outcome := some (.trapped k v)
      calls := s.calls ++ [.deliver k v] }) : Post P (raiseTrap dlv k v s) := by
  obtain ⟨u, -, ht⟩ | ⟨-, ht⟩ | ⟨-, ht⟩ := raiseTrap_cases dlv k v s
  · rw [ht]
    exact .next (h u)
  · rw [ht]
    exact .fault P _
  · rw [ht]
    exact .refused P _

/-! ## The opcode and the decode result stay latched (R148) -/

/-- What DECODE latched. -/
def Decoded (x : Xlen) (w : Opcode) (r : DecideResult) (s : State) : Prop :=
  s.lat.xlen0 = x ∧ s.lat.opcode = w ∧ s.lat.res = r

section
variable {x : Xlen} {w : Opcode} {r : DecideResult}

theorem extractStage_decoded {s : State} (h : Decoded x w r s) : Post (Decoded x w r) (extractStage s) := by
  unfold extractStage
  split
  · split
    · exact .next h
    · exact .refused _ _
  · exact .refused _ _
  · exact .refused _ _

theorem executeStage_decoded (c : Collaborators) {s : State} (h : Decoded x w r s) :
    Post (Decoded x w r) (executeStage c s) := by
  unfold executeStage
  split
  · split
    next b _ =>
      cases c.handler b.handler s.lat.args s.cpu with
      | hangs => exact .fault _ _
      | commands => exact .refused _ _
      | returns a =>
        cases a with
        | done taken u => exact .next h
        | raise k v u => exact .raiseTrap fun _ => h
    next => exact .refused _ _
  · exact .refused _ _
  · exact .refused _ _

theorem updateStage_decoded {s : State} (h : Decoded x w r s) : Post (Decoded x w r) (updateStage s) := by
  unfold updateStage
  split
  · refine .next ?_
    unfold Decoded
    rw [updatePc_lat]
    exact h
  · exact .refused _ _
  · exact .refused _ _

theorem restExtract_decoded (c : Collaborators) {s : State} (h : Decoded x w r s) :
    Post (Decoded x w r) (restExtract c s) :=
  (extractStage_decoded h).continueAt
    (fun _ _ ht => (executeStage_decoded c ht).continueAt (fun _ _ hu => updateStage_decoded hu) fun _ _ hu => hu)
    fun _ _ ht => ht

end

/-- The rest of a pass from DECODE on, by the decode result. -/
theorem restDecode_cases (c : Collaborators) (s : State) :
    let r := decideTree (treeOf s s.lat.xlen0) s.lat.opcode
    (r = .illegal ∧ restDecode c s =
        raiseTrap c.deliver .illegalInstruction (s.lat.opcode.setWidth 64) (setRes .illegal s)) ∨
      (∃ d, r = .nop d ∧ restDecode c s = .next (retire (advance d.width (setRes (.nop d) s)))) ∨
      ∃ d, r = .decl d ∧ restDecode c s = restExtract c { setRes (.decl d) s with phase := .extract } := by
  intro r
  cases hr : r with
  | illegal => exact .inl ⟨rfl, by rw [restDecode, decodeStage_illegal c hr, continueAt_raiseTrap (by decide)]⟩
  | nop d =>
    refine .inr (.inl ⟨d, rfl, ?_⟩)
    rw [restDecode, decodeStage_nop c hr, continueAt_other .extract _ _ (show Phase.idle ≠ .extract by decide)]
  | decl d => exact .inr (.inr ⟨d, rfl, by rw [restDecode, decodeStage_decl c hr, continueAt_same .extract _ _ rfl]⟩)

/-- From DECODE on, a pass keeps its opcode and its decode result. -/
theorem restDecode_decoded (c : Collaborators) (s : State) :
    Post (Decoded s.lat.xlen0 s.lat.opcode (decideTree (treeOf s s.lat.xlen0) s.lat.opcode)) (restDecode c s) := by
  obtain ⟨hr, h⟩ | ⟨d, hr, h⟩ | ⟨d, hr, h⟩ := restDecode_cases c s
  · rw [h, hr]
    exact .raiseTrap fun _ => ⟨rfl, rfl, rfl⟩
  · rw [h, hr]
    exact .next ⟨rfl, rfl, rfl⟩
  · rw [h, hr]
    exact restExtract_decoded c ⟨rfl, rfl, rfl⟩

/-- What the part of a pass before EXECUTE leaves in EXECUTE: the decode result latched, and the CPU state untouched. -/
theorem extractOfDecode_execute {c : Collaborators} {s t : State}
    (h : continueAt .extract extractStage (decodeStage c s) = .next t) (ht : t.phase = .execute) :
    t.lat.opcode = s.lat.opcode ∧ t.lat.res = decideTree (treeOf s s.lat.xlen0) s.lat.opcode ∧ t.cpu = s.cpu := by
  cases hd : decodeStage c s with
  | next u =>
    rw [hd] at h
    obtain ⟨hu, hop, hres, -⟩ := decodeStage_next hd
    rcases hu with hidle | ⟨hext, hcpu⟩
    · rw [continueAt_other _ _ _ (by rw [hidle]; nofun)] at h
      cases h
      rw [hidle] at ht
      cases ht
    · rw [continueAt_same _ _ _ hext] at h
      have hkeep : Post (fun v => v.cpu = u.cpu) (extractStage u) := by
        unfold extractStage
        split
        · split
          · exact .next rfl
          · exact .refused _ _
        · exact .refused _ _
        · exact .refused _ _
      obtain ⟨-, hop', hres'⟩ := extractStage_decoded (x := u.lat.xlen0) ⟨rfl, rfl, rfl⟩ t h
      exact ⟨hop'.trans hop, hres'.trans hres, (hkeep t h).trans hcpu⟩
  | fault r => rw [hd] at h; cases h
  | refused r => rw [hd] at h; cases h

theorem treeOf_eq (s : State) (x : Xlen) : treeOf s x = if x = .w32 then s.tree32 else s.tree64 := by
  cases x <;> rfl

/-- Settles O14: FETCH leaves the CPU state and the width latched at the start; DECODE goes by them, and nothing after it changes
what it latched. -/
theorem widthAtPassStartSelectsTheTree : Obligations.WidthAtPassStartSelectsTheTree := by
  unfold Obligations.WidthAtPassStartSelectsTheTree
  intro c s s1 s2 hs h1 h2 hp2
  obtain rfl : started s = s1 := by
    rw [startStage_of_starts hs] at h1
    cases h1
    rfl
  obtain ⟨hfetch, same⟩ := fetchStage_next h2
  have hcpu : s2.cpu = s.cpu := by
    obtain hidle | ⟨-, hc⟩ := hfetch
    · rw [hp2] at hidle
      cases hidle
    · exact hc
  have hx : s2.lat.xlen0 = s.cpu.xlen := same.xlen0
  have htree : treeOf s2 s2.lat.xlen0 = if s.cpu.xlen = .w32 then s.tree32 else s.tree64 := by
    rw [treeOf_eq, hx, same.tree32, same.tree64]
    rfl
  have hpass : pass c s = restDecode c s2 := by
    rw [pass_of_starts c hs, restFetch, h2, continueAt_same _ _ _ hp2]
  rw [← htree, hpass]
  refine ⟨fun t ht => hx ▸ restDecode_decoded c s2 t ht, fun t ht htp => ?_, fun hr => ?_, fun hr => ?_⟩
  · rw [beforeExecute, h1, continueAt_same .fetch _ _ rfl, h2, continueAt_same _ _ _ hp2] at ht
    rw [← hcpu]
    exact extractOfDecode_execute ht htp
  · obtain ⟨-, h⟩ | ⟨d, hr', -⟩ | ⟨d, hr', -⟩ := restDecode_cases c s2
    · have hu : s.cpu = { s2.cpu with pc := s2.lat.pc0 } := by
        rw [hcpu, same.pc0]
        rfl
      rw [h, hu]
      exact raiseTrap_delivers c _ _ _
    · rw [hr] at hr'
      cases hr'
    · rw [hr] at hr'
      cases hr'
  · obtain ⟨d0, hd0⟩ := hr
    obtain ⟨hr', -⟩ | ⟨d, -, h⟩ | ⟨d, hr', -⟩ := restDecode_cases c s2
    · rw [hd0] at hr'
      cases hr'
    · exact ⟨_, h, rfl⟩
    · rw [hd0] at hr'
      cases hr'

/-! ## The calls of a pass (20_memory.md R40) -/

/-- The calls of a pass of which FETCH completed, from `p`: the fetch, perhaps a handler, perhaps a delivery. -/
def CompleteCalls (p : Word) (l : List Call) : Prop :=
  ∃ f, FetchCalls p f ∧ (l = f ∨ (∃ k v, l = f ++ [.deliver k v]) ∨ (∃ h a, l = f ++ [.handler h a]) ∨
    ∃ h a k v, l = f ++ [.handler h a, .deliver k v])

/-- The calls of a pass that ended in FETCH, from `p`. -/
def FaultCalls (p : Word) (l : List Call) : Prop :=
  (∃ k, l = [.translate p, .deliver k p]) ∨
    ∃ k, l = [.translate p, .readHalf p, .translate (p + 2), .deliver k (p + 2)]

/-- FETCH is complete, and nothing was called since; or the pass is over. -/
def FetchedCalls (p : Word) (s : State) : Prop :=
  FetchCalls p s.calls ∨ s.phase = .idle ∧ (FaultCalls p s.calls ∨ CompleteCalls p s.calls)

theorem fetchStage_calls (c : Collaborators) {s : State} (h : s.calls = []) :
    Post (FetchedCalls s.lat.pc0) (fetchStage c s) := by
  unfold fetchStage
  dsimp only
  split
  next k _ => exact .raiseTrap fun _ => .inr ⟨rfl, .inl (.inl ⟨.instructionFetchFault k, by simp [h]⟩)⟩
  · split
    · split
      · split
        next k _ => exact .raiseTrap fun _ => .inr ⟨rfl, .inl (.inr ⟨.instructionFetchFault k, by simp [h]⟩)⟩
        · exact .next (.inl (.inr (.inr (by simp [fetchSecond, h]))))
      · exact .next (.inl (.inr (.inl (by simp [fetchSecond, h]))))
    · exact .next (.inl (.inl (by simp [h])))

theorem decodeStage_calls (c : Collaborators) {p : Word} {s : State} (h : FetchCalls p s.calls) :
    Post (FetchedCalls p) (decodeStage c s) := by
  unfold decodeStage
  dsimp only
  split
  · exact .raiseTrap fun _ => .inr ⟨rfl, .inr ⟨s.calls, h, .inr (.inl ⟨_, _, rfl⟩)⟩⟩
  · exact .next (.inl h)
  · exact .next (.inl h)

theorem extractStage_calls {p : Word} {s : State} (h : FetchCalls p s.calls) : Post (FetchedCalls p) (extractStage s) := by
  unfold extractStage
  split
  · split
    · exact .next (.inl h)
    · exact .refused _ _
  · exact .refused _ _
  · exact .refused _ _

theorem executeStage_calls (c : Collaborators) {p : Word} {s : State} (h : FetchCalls p s.calls) :
    Post (fun t => CompleteCalls p t.calls) (executeStage c s) := by
  unfold executeStage
  split
  · split
    next b _ =>
      cases c.handler b.handler s.lat.args s.cpu with
      | hangs => exact .fault _ _
      | commands => exact .refused _ _
      | returns a =>
        cases a with
        | done taken u => exact .next ⟨s.calls, h, .inr (.inr (.inl ⟨_, _, rfl⟩))⟩
        | raise k v u => exact .raiseTrap fun _ => ⟨s.calls, h, .inr (.inr (.inr ⟨b.handler, s.lat.args, k, v, by simp⟩))⟩
    next => exact .refused _ _
  · exact .refused _ _
  · exact .refused _ _

theorem updateStage_calls {s : State} : Post (fun t => t.calls = s.calls) (updateStage s) := by
  unfold updateStage
  split
  · exact .next (updatePc_calls ..)
  · exact .refused _ _
  · exact .refused _ _

/-- The calls of a pass whatever its stages did. -/
def PassCalls (p : Word) (l : List Call) : Prop := l = [] ∨ FaultCalls p l ∨ CompleteCalls p l

theorem FetchedCalls.passCalls {p : Word} {s : State} (h : FetchedCalls p s) : PassCalls p s.calls := by
  obtain hf | ⟨-, hfault | hcomplete⟩ := h
  · exact .inr (.inr ⟨_, hf, .inl rfl⟩)
  · exact .inr (.inl hfault)
  · exact .inr (.inr hcomplete)

/-- A stage that only begins when FETCH is complete and the pass is not over. -/
theorem FetchedCalls.fetchCalls {p : Word} {s : State} (h : FetchedCalls p s) (hp : s.phase ≠ .idle) :
    FetchCalls p s.calls := h.resolve_right fun hidle => hp hidle.1

theorem pass_calls (c : Collaborators) (s : State) : Post (fun t => PassCalls s.cpu.pc t.calls) (pass c s) := by
  have execute (t : State) (ht : t.phase = .execute) (h : FetchedCalls s.cpu.pc t) :
      Post (fun t => PassCalls s.cpu.pc t.calls) (restExecute c t) :=
    (executeStage_calls c (h.fetchCalls (by rw [ht]; nofun))).continueAt
      (fun _ _ hu v hv => .inr (.inr (updateStage_calls v hv ▸ hu))) fun _ _ hu => .inr (.inr hu)
  have extract (t : State) (ht : t.phase = .extract) (h : FetchedCalls s.cpu.pc t) :
      Post (fun t => PassCalls s.cpu.pc t.calls) (restExtract c t) :=
    (extractStage_calls (h.fetchCalls (by rw [ht]; nofun))).continueAt execute fun _ _ hu => hu.passCalls
  have decode (t : State) (ht : t.phase = .decode) (h : FetchedCalls s.cpu.pc t) :
      Post (fun t => PassCalls s.cpu.pc t.calls) (restDecode c t) :=
    (decodeStage_calls c (h.fetchCalls (by rw [ht]; nofun))).continueAt extract fun _ _ hu => hu.passCalls
  have start : Post (fun t => t.calls = [] ∧ t.lat.pc0 = s.cpu.pc) (startStage s) := by
    unfold startStage
    split
    · exact .refused _ _
    · split
      · exact .refused _ _
      · dsimp only
        split
        · exact .next ⟨rfl, rfl⟩
        · exact .next ⟨rfl, rfl⟩
  rw [pass_eq_nested]
  refine start.continueAt (fun t _ ht => ?_) fun t _ ht => .inl ht.1
  have hfetch := fetchStage_calls c ht.1
  rw [ht.2] at hfetch
  exact hfetch.continueAt decode fun _ _ hu => hu.passCalls

/-- Settles O23: the calls that the stages record, one after another. -/
theorem callsOfAPassComeInOrder : Obligations.CallsOfAPassComeInOrder := by
  unfold Obligations.CallsOfAPassComeInOrder
  intro c s t h
  obtain hnone | (hfirst | hsecond) | hcomplete := pass_calls c s t h
  · exact .inl hnone
  · exact .inr (.inl hfirst)
  · exact .inr (.inr (.inl hsecond))
  · exact .inr (.inr (.inr hcomplete))

end Sys2Proof.Machine
end

section
/-! PROOFS. STARTUP and the host commands (45_host_operations.md R170 to R177). -/

namespace Sys2Proof.Machine

-- Kernel evaluations one after another: each that waits for an earlier one holds a thread.
set_option Elab.async false

/-! ## What STARTUP rejects (R84, R102, R170; 92_eei_decisions.md D13) -/

/-- The set of some width is one that BUILD rejects, or mnemonics are inconsistent across the widths. -/
def StartupRejects (ds : List Declaration) : Prop :=
  (∃ x, BuildRejects (variantDecls x ds)) ∨ consistentMnemonics ds = false

/-- Every declaration is in the set of some width. -/
theorem exists_mem_variantDecls {ds : List Declaration} {d : Declaration} (h : d ∈ ds) : ∃ x, d ∈ variantDecls x ds := by
  have hx : ∃ x, d.inTree x = true := by
    cases hv : d.variant with
    | common => exact ⟨.w32, by simp [Declaration.inTree, hv]⟩
    | rv32 => exact ⟨.w32, by simp [Declaration.inTree, hv]⟩
    | rv64 => exact ⟨.w64, by simp [Declaration.inTree, hv]⟩
  obtain ⟨x, hx⟩ := hx
  exact ⟨x, List.mem_filter.mpr ⟨h, hx⟩⟩

theorem mem_of_mem_variantDecls {x : Xlen} {ds : List Declaration} {d : Declaration} (h : d ∈ variantDecls x ds) : d ∈ ds :=
  (List.mem_filter.mp h).1

theorem inconsistent_iff (ds : List Declaration) : consistentMnemonics ds = false ↔
    ∃ d ∈ ds, ∃ e ∈ ds, d.mnemonic = e.mnemonic ∧ (d.pcclass ≠ e.pcclass ∨ d.kind ≠ e.kind) := by
  rw [← Bool.not_eq_true, consistentMnemonics_iff]
  push Not
  simp only [imp_iff_not_or, ne_eq]

theorem build_error_iff (ds : List Declaration) : (∃ e, build ds = .error e) ↔ BuildRejects ds := by
  obtain ⟨t, ht, hn, -⟩ | ⟨e, he, -, hr⟩ := build_cases ds
  · simp [ht, hn]
  · simp [he, hr]

/-- The checks of STARTUP fail for a reason of BUILD, or for inconsistent mnemonics, exactly on the sets that are rejected. -/
theorem startupChecks_buildFault_iff (ds : List Declaration) (hs : List Binding) :
    StartupRejects ds ↔ ∃ e, startupChecks ds hs = .error e ∧ IsBuildFault e := by
  have notFault : ∀ e : Fault, (∃ m, e = .missingHandler m) ∨ e = .nonConforming → ¬ IsBuildFault e := by
    rintro e (⟨m, rfl⟩ | rfl) ⟨hm, hc⟩
    · exact hm m rfl
    · exact hc rfl
  unfold startupChecks
  obtain ⟨t32, h32, hn32, -⟩ | ⟨e, he, hf, hr⟩ := build_cases (variantDecls .w32 ds)
  case inr =>
    simp only [he]
    exact ⟨fun _ => ⟨e, rfl, hf⟩, fun _ => .inl ⟨.w32, hr⟩⟩
  obtain ⟨t64, h64, hn64, -⟩ | ⟨e, he, hf, hr⟩ := build_cases (variantDecls .w64 ds)
  case inr =>
    simp only [h32, he]
    exact ⟨fun _ => ⟨e, rfl, hf⟩, fun _ => .inl ⟨.w64, hr⟩⟩
  simp only [h32, h64]
  cases hc : consistentMnemonics ds with
  | false => exact ⟨fun _ => ⟨.malformedSet, rfl, nofun, nofun⟩, fun _ => .inr hc⟩
  | true =>
    have accepted : ¬ StartupRejects ds := by
      rintro (⟨x, hx⟩ | hx)
      · cases x
        · exact hn32 hx
        · exact hn64 hx
      · rw [hc] at hx
        cases hx
    refine iff_of_false accepted ?_
    rintro ⟨e, he, hf⟩
    refine notFault e ?_ hf
    simp only [if_true] at he
    split at he
    next m _ => exact .inl ⟨m, (Except.error.inj he).symm⟩
    next =>
      split at he
      · cases he
      · exact .inr (Except.error.inj he).symm

theorem startup_fault_iff {xr : Config.XlenReset} {ds : List Declaration} {hs : List Binding} {s : State}
    (h : s.phase = .unbuilt) (e : Fault) : startup xr ds hs s = .fault e ↔ startupChecks ds hs = .error e := by
  obtain ⟨t32, t64, b, hc, hst⟩ | ⟨e', hc, hst⟩ := startup_cases (xr := xr) (ds := ds) (hs := hs) h
  · simp [hc, hst]
  · simp [hc, hst]

theorem afterStartup_fault {xr : Config.XlenReset} {ds : List Declaration} {hs : List Binding} {s : State} {e : Fault}
    (h : startup xr ds hs s = .fault e) : afterStartup xr ds hs s = { s with phase := .fatal } := by
  simp only [afterStartup, h]

/-- The defects that the statement of R102 lists are those that STARTUP rejects. -/
theorem startupRejects_iff (ds : List Declaration) :
    ((∃ d ∈ ds, d.wf = false) ∨
      (∃ d ∈ ds, ∃ e ∈ ds, d.mnemonic = e.mnemonic ∧ (d.pcclass ≠ e.pcclass ∨ d.kind ≠ e.kind)) ∨
      ∃ x, distinctMnemonics (variantDecls x ds) = false ∨ Ambiguous (variantDecls x ds)) ↔ StartupRejects ds := by
  rw [← inconsistent_iff]
  constructor
  · rintro (⟨d, hd, hwf⟩ | hc | ⟨x, hx | hx⟩)
    · obtain ⟨x, hx⟩ := exists_mem_variantDecls hd
      exact .inl ⟨x, .inl ⟨d, hx, hwf⟩⟩
    · exact .inr hc
    · exact .inl ⟨x, .inr (.inl (by simp [variantSetWf, hx]))⟩
    · exact .inl ⟨x, .inr (.inr hx)⟩
  · rintro (⟨x, ⟨d, hd, hwf⟩ | hset | hamb⟩ | hc)
    · exact .inl ⟨d, mem_of_mem_variantDecls hd, hwf⟩
    · rw [variantSetWf, Bool.and_eq_false_iff] at hset
      obtain hdist | hcons := hset
      · exact .inr (.inr ⟨x, .inl hdist⟩)
      · obtain ⟨d, hd, e, he, hde⟩ := (inconsistent_iff _).mp hcons
        exact .inr (.inl ((inconsistent_iff ds).mpr ⟨d, mem_of_mem_variantDecls hd, e, mem_of_mem_variantDecls he, hde⟩))
    · exact .inr (.inr ⟨x, .inr hamb⟩)
    · exact .inr (.inl hc)

/-- Settles O3: BUILD rejects exactly the three kinds of sets, and STARTUP reports a reason of BUILD exactly when the set of some
width is rejected or mnemonics are inconsistent. -/
theorem buildFailsInExactlyThreeCases : Obligations.BuildFailsInExactlyThreeCases := by
  unfold Obligations.BuildFailsInExactlyThreeCases
  refine ⟨build_error_iff, fun xr ds hs s c hp => ?_⟩
  dsimp only
  rw [startupRejects_iff, startupChecks_buildFault_iff ds hs]
  refine ⟨exists_congr fun e => and_congr_left fun _ => (startup_fault_iff hp e).symm, ?_⟩
  rintro ⟨e, he, -⟩
  rw [afterStartup_fault ((startup_fault_iff (xr := xr) hp e).mpr he)]
  exact ⟨rfl, pass_notIdle c (by simp)⟩

/-! ## A successful STARTUP (R170; 10_state.md R24) -/

theorem bindOf_mem {l : List Binding} {m : Mnemonic} {b : Binding} (h : bindOf l m = some b) : b ∈ l ∧ b.mnemonic = m :=
  ⟨List.mem_of_find?_eq_some h, by simpa using List.find?_some h⟩

/-- No handler is missing when each REGULAR declaration has one. -/
theorem missingHandler_eq_none (ds : List Declaration) (hs : List Binding) :
    missingHandler ds hs = none ↔ ∀ d ∈ ds, d.kind = .regular → ∃ b ∈ hs, b.mnemonic = d.mnemonic := by
  simp [missingHandler, bindOf]

theorem mem_restrictBinding (ds : List Declaration) (hs : List Binding) (b : Binding) :
    b ∈ restrictBinding ds hs ↔ b ∈ hs ∧ ∃ d ∈ ds, d.mnemonic = b.mnemonic := by
  simp [restrictBinding]

/-- A decoding function that conforms (R88). -/
theorem conforms_iff (dec : Opcode → DecideResult) : conforms dec = true ↔
    dec 0#32 = .illegal ∧ ∃ d, dec 0x00000073#32 = .decl d ∧ d.mnemonic = .ecall ∧ d.pcclass = .trapBoundary := by
  rw [conforms, Bool.and_eq_true, beq_iff_eq, and_comm]
  refine and_congr_right fun _ => ?_
  cases dec 0x00000073#32 with
  | decl d => simp
  | nop d => simp
  | illegal => simp

/-- Settles O24: what the checks of STARTUP establish, and what it writes. -/
theorem startupLeavesAReadyBlock : Obligations.StartupLeavesAReadyBlock := by
  unfold Obligations.StartupLeavesAReadyBlock
  intro xr ds hs s t h
  have hp : s.phase = .unbuilt := by
    by_contra hp
    simp [startup, hp] at h
  obtain ⟨t32, t64, b, hc, hst⟩ | ⟨e, -, hst⟩ := startup_cases (xr := xr) (ds := ds) (hs := hs) hp
  case inr =>
    rw [hst] at h
    cases h
  rw [hst] at h
  cases h
  obtain ⟨h32, h64, hcons, hmiss, hconf, rfl⟩ := (startupChecks_ok ds hs t32 t64 b).mp hc
  obtain ⟨hconf32, hconf64⟩ := Bool.and_eq_true _ _ ▸ hconf
  obtain ⟨zero32, ecall32⟩ := (conforms_iff _).mp hconf32
  obtain ⟨zero64, ecall64⟩ := (conforms_iff _).mp hconf64
  refine ⟨hp, rfl, rfl, rfl, ?_, h32, h64, (consistentMnemonics_iff ds).mp hcons, fun d hd hk => ?_, fun b hb => ?_, zero32,
    zero64, ecall32, ecall64⟩
  · cases xr <;> rfl
  · obtain ⟨b, hb, hm⟩ := (missingHandler_eq_none ds hs).mp hmiss d hd hk
    exact ⟨b, (mem_restrictBinding ds hs b).mpr ⟨hb, d, hd, hm.symm⟩, hm⟩
  · exact (mem_restrictBinding ds hs b).mp hb

/-- Settles O25: a STARTUP that is not fatal would have passed the check that fails. -/
theorem missingHandlerIsFatalAtStartup : Obligations.MissingHandlerIsFatalAtStartup := by
  unfold Obligations.MissingHandlerIsFatalAtStartup
  intro xr ds hs s hp hbad
  obtain ⟨t32, t64, b, hc, -⟩ | ⟨e, -, hst⟩ := startup_cases (xr := xr) (ds := ds) (hs := hs) hp
  case inr => exact ⟨⟨e, hst⟩, by rw [afterStartup_fault hst]⟩
  obtain ⟨h32, h64, hcons, hmiss, -, -⟩ := (startupChecks_ok ds hs t32 t64 b).mp hc
  exfalso
  obtain ⟨d, hd, hk, hno⟩ | ⟨x, e, he⟩ | hinc := hbad
  · obtain ⟨b, hb, hm⟩ := (missingHandler_eq_none ds hs).mp hmiss d hd hk
    exact hno b hb hm
  · cases x
    · rw [h32] at he
      cases he
    · rw [h64] at he
      cases he
  · rw [(inconsistent_iff ds).mpr hinc] at hcons
    cases hcons

/-! ## Acceptance of commands (R177) -/

theorem startup_refused {xr : Config.XlenReset} {ds : List Declaration} {hs : List Binding} {s : State}
    (h : s.phase ≠ .unbuilt) : startup xr ds hs s = .refused .notUnbuilt := if_neg h

theorem afterStartup_refused {xr : Config.XlenReset} {ds : List Declaration} {hs : List Binding} {s : State}
    (h : s.phase ≠ .unbuilt) : afterStartup xr ds hs s = s := by
  simp only [afterStartup, startup_refused h]

theorem whenIdle_refused {s : State} (h : s.phase ≠ .idle) (f : State → Result) : whenIdle s f = .refused .notIdle := if_neg h

theorem whenIdle_idle {s : State} (h : s.phase = .idle) (f : State → Result) : whenIdle s f = f s := if_pos h

/-- Outside IDLE a command other than STARTUP is refused and changes nothing. -/
theorem command_notIdle (xr : Config.XlenReset) (onePass : State → Result) {k : Command} {s : State}
    (hk : ∀ ds hs, k ≠ .startup ds hs) (h : s.phase ≠ .idle) :
    command xr onePass k s = .refused .notIdle ∧ afterCommand xr onePass k s = s := by
  cases k with
  | startup ds hs => exact absurd rfl (hk ds hs)
  | reset e => simp only [command, afterCommand, hostReset, whenIdle_refused h, answering, stateOr, and_self]
  | setXlen w => simp only [command, afterCommand, setXlen, whenIdle_refused h, answering, stateOr, and_self]
  | run n => simp only [command, afterCommand, runWith, afterRun, if_neg h, answering, and_self]
  | invalidate => simp only [command, afterCommand, invalidate, whenIdle_refused h, answering, stateOr, and_self]
  | features => simp only [command, afterCommand, features, if_neg h, and_self]
  | setBreakpoints b => simp only [command, afterCommand, setBreakpoints, whenIdle_refused h, answering, stateOr, and_self]

/-- A RUN that is stuck in a pass is in EXECUTE. -/
theorem whereRunIs_of_fault {onePass : State → Result} {n : Nat} {s : State} {r : Fault}
    (h : runLoop onePass n s = .fault r) : (whereRunIs onePass n s).phase = .execute := by
  induction n generalizing s with
  | zero => cases h
  | succ n ih =>
    simp only [runLoop] at h
    simp only [whereRunIs]
    cases hp : onePass { s with budget := n + 1 } with
    | next u =>
      simp only [hp] at h ⊢
      cases hs : stopOf u.outcome with
      | some b =>
        simp only [hs] at h
        cases h
      | none =>
        simp only [hs] at h ⊢
        exact ih h
    | fault r => rfl
    | refused r =>
      simp only [hp] at h
      cases h

/-- Settles O26: the phase of a command is checked first, and a RUN that hangs stays in EXECUTE. -/
theorem commandsAreAcceptedOnlyInTheirPhase : Obligations.CommandsAreAcceptedOnlyInTheirPhase := by
  unfold Obligations.CommandsAreAcceptedOnlyInTheirPhase
  intro xr onePass k s
  have startup_notUnbuilt : (∃ ds hs, k = .startup ds hs) → s.phase ≠ .unbuilt →
      command xr onePass k s = .refused .notUnbuilt ∧ afterCommand xr onePass k s = s := by
    rintro ⟨ds, hs, rfl⟩ hp
    simp only [command, afterCommand, startup_refused hp, afterStartup_refused hp, answering, and_self]
  refine ⟨command_notIdle xr onePass, startup_notUnbuilt, fun hp => ?_, fun n hn => ?_⟩
  · by_cases hk : ∃ ds hs, k = .startup ds hs
    · rw [(startup_notUnbuilt hk (by simp [hp])).2, hp]
    · rw [(command_notIdle xr onePass (fun ds hs h => hk ⟨ds, hs, h⟩) (by simp [hp])).2, hp]
  · by_cases hp : s.phase = .idle
    · have hloop : runLoop onePass n s = .fault .stuck := by
        simp only [command, runWith, if_pos hp] at hn
        cases hl : runLoop onePass n s with
        | next r => rw [hl] at hn; cases hn
        | fault r => rw [hl] at hn; cases hn; rfl
        | refused r => rw [hl] at hn; cases hn
      simp only [afterCommand, afterRun, if_pos hp, whereRunIs_of_fault hloop]
      decide
    · simp only [command, runWith, if_neg hp, answering] at hn
      cases hn

/-- Settles O27: what each command writes from IDLE. -/
theorem hostCommandsChangeOnlyTheirElement : Obligations.HostCommandsChangeOnlyTheirElement := by
  unfold Obligations.HostCommandsChangeOnlyTheirElement
  intro onePass s hp
  have hfeatures : features s = .ok Config.isaFeatures := if_pos hp
  refine ⟨fun xr e => ?_, fun xr => ⟨?_, ?_⟩, fun xr w h32 h64 => ?_, fun xr => ?_, fun xr b => ?_, fun xr => ?_, hfeatures,
    fun a => rfl⟩
  · simp only [command, hostReset, whenIdle_idle hp, answering]
    cases xr <;> rfl
  · simp only [command, setXlen, whenIdle_idle hp]
    rfl
  · simp only [command, setXlen, whenIdle_idle hp]
    rfl
  · simp only [command, setXlen, whenIdle_idle hp, xlenOfNat, if_neg h32, if_neg h64, answering]
  · exact ⟨{ s with calls := [.invalidate] }, by simp only [command, invalidate, whenIdle_idle hp, answering], rfl, rfl⟩
  · simp only [command, setBreakpoints, whenIdle_idle hp, answering]
  · simp only [command, hfeatures]

/-! ## RUN (R173) -/

/-- The state with another budget. -/
def setBudget (n : Nat) (s : State) : State := { s with budget := n }

@[simp] theorem setBudget_cpu (n : Nat) (s : State) : (setBudget n s).cpu = s.cpu := rfl
@[simp] theorem setBudget_bind (n : Nat) (s : State) : (setBudget n s).bind = s.bind := rfl
@[simp] theorem setBudget_bp (n : Nat) (s : State) : (setBudget n s).bp = s.bp := rfl
@[simp] theorem setBudget_phase (n : Nat) (s : State) : (setBudget n s).phase = s.phase := rfl
@[simp] theorem setBudget_lat (n : Nat) (s : State) : (setBudget n s).lat = s.lat := rfl
@[simp] theorem setBudget_outcome (n : Nat) (s : State) : (setBudget n s).outcome = s.outcome := rfl

/-- A result, its next state with another budget. -/
def Result.setBudget (n : Nat) (o : Result) : Result :=
  match o with
  | .next t => .next (Machine.setBudget n t)
  | .fault r => .fault r
  | .refused r => .refused r

section
variable (n : Nat) (s : State)

theorem continueAt_setBudget (p : Phase) {f : State → Result} {o : Result}
    (hf : ∀ t, f (setBudget n t) = (f t).setBudget n) :
    continueAt p f (o.setBudget n) = (continueAt p f o).setBudget n := by
  cases o with
  | next t =>
    by_cases hp : t.phase = p
    · rw [continueAt_same _ _ _ hp]
      exact (continueAt_same p f (setBudget n t) hp).trans (hf t)
    · rw [continueAt_other _ _ _ hp]
      exact continueAt_other p f (setBudget n t) hp
  | fault r => rfl
  | refused r => rfl

theorem raiseTrap_setBudget (dlv : TrapKind → Word → Cpu → Reply Cpu) (k : TrapKind) (v : Word) :
    raiseTrap dlv k v (setBudget n s) = (raiseTrap dlv k v s).setBudget n := by
  unfold raiseTrap
  simp only [setBudget_cpu, setBudget_lat]
  cases dlv k v { s.cpu with pc := s.lat.pc0 } <;> rfl

theorem startStage_setBudget : startStage (setBudget n s) = (startStage s).setBudget n := by
  by_cases hp : s.phase = .idle
  case neg =>
    rw [startStage_notIdle hp, startStage_notIdle (s := setBudget n s) hp]
    rfl
  cases hodd : isOdd s.cpu.pc with
  | true =>
    rw [startStage_odd hp hodd, startStage_odd (s := setBudget n s) hp hodd]
    rfl
  | false =>
    cases hbp : breakpointAt s.bp s.cpu.pc with
    | true =>
      rw [startStage_breakpoint hp hodd hbp, startStage_breakpoint (s := setBudget n s) hp hodd hbp]
      rfl
    | false =>
      rw [startStage_fetch s hp hodd hbp, startStage_fetch (setBudget n s) hp hodd hbp]
      rfl

theorem fetchStage_setBudget (c : Collaborators) : fetchStage c (setBudget n s) = (fetchStage c s).setBudget n := by
  cases h : c.translate s.cpu s.lat.pc0 with
  | error k =>
    rw [fetchStage_fault h, fetchStage_fault (s := setBudget n s) h]
    exact raiseTrap_setBudget n (noteCall (.translate s.lat.pc0) s) _ _ _
  | ok e =>
    cases hl : isLong (c.readHalf s.cpu e s.lat.pc0) with
    | false =>
      rw [fetchStage_short h hl, fetchStage_short (s := setBudget n s) h hl]
      rfl
    | true =>
      cases hc : crossesPage c.pageSize s.lat.pc0 with
      | false =>
        rw [fetchStage_samePage h hl hc, fetchStage_samePage (s := setBudget n s) h hl hc]
        rfl
      | true =>
        cases h2 : c.translate s.cpu (s.lat.pc0 + 2) with
        | error k =>
          rw [fetchStage_crossing_fault h hl hc h2, fetchStage_crossing_fault (s := setBudget n s) h hl hc h2]
          exact raiseTrap_setBudget n (secondTranslated s) _ _ _
        | ok e2 =>
          rw [fetchStage_crossing h hl hc h2, fetchStage_crossing (s := setBudget n s) h hl hc h2]
          rfl

theorem decodeStage_setBudget (c : Collaborators) : decodeStage c (setBudget n s) = (decodeStage c s).setBudget n := by
  cases h : decideTree (treeOf s s.lat.xlen0) s.lat.opcode with
  | illegal =>
    rw [decodeStage_illegal c h, decodeStage_illegal (s := setBudget n s) c h]
    exact raiseTrap_setBudget n (setRes .illegal s) _ _ _
  | nop d =>
    rw [decodeStage_nop c h, decodeStage_nop (s := setBudget n s) c h]
    rfl
  | decl d =>
    rw [decodeStage_decl c h, decodeStage_decl (s := setBudget n s) c h]
    rfl

theorem extractStage_setBudget : extractStage (setBudget n s) = (extractStage s).setBudget n := by
  unfold extractStage
  simp only [setBudget_lat, setBudget_bind]
  cases s.lat.res with
  | decl d => cases h : bindOf s.bind d.mnemonic <;> simp only [h] <;> rfl
  | nop d => rfl
  | illegal => rfl

theorem executeStage_setBudget (c : Collaborators) : executeStage c (setBudget n s) = (executeStage c s).setBudget n := by
  unfold executeStage
  simp only [setBudget_lat, setBudget_bind, setBudget_cpu]
  cases s.lat.res with
  | decl d =>
    cases hb : bindOf s.bind d.mnemonic with
    | none => simp only [hb]; rfl
    | some b =>
      simp only [hb]
      cases c.handler b.handler s.lat.args s.cpu with
      | hangs => rfl
      | commands => rfl
      | returns a =>
        cases a with
        | done taken u => rfl
        | raise k v u =>
          exact raiseTrap_setBudget n
            { noteCall (.handler b.handler s.lat.args) s with cpu := u, lat := { s.lat with out := .raise k v } } _ _ _
  | nop d => rfl
  | illegal => rfl

theorem updateStage_setBudget : updateStage (setBudget n s) = (updateStage s).setBudget n := by
  unfold updateStage updatePc
  simp only [setBudget_lat]
  cases s.lat.res with
  | decl d => cases h : advances d.pcclass (takenOf s.lat.out) <;> simp only [h] <;> rfl
  | nop d => rfl
  | illegal => rfl

/-- No stage reads the budget, so a pass keeps whatever budget it starts with and otherwise does the same. -/
theorem pass_setBudget (c : Collaborators) : pass c (setBudget n s) = (pass c s).setBudget n := by
  simp only [pass, beforeExecute, fromExecute]
  rw [startStage_setBudget, continueAt_setBudget n .fetch fun t => fetchStage_setBudget n t c,
    continueAt_setBudget n .decode fun t => decodeStage_setBudget n t c,
    continueAt_setBudget n .extract fun t => extractStage_setBudget n t,
    continueAt_setBudget n .execute fun t => executeStage_setBudget n t c,
    continueAt_setBudget n .update fun t => updateStage_setBudget n t]

end

theorem runLoop_succ (onePass : State → Result) (n : Nat) (s : State) : runLoop onePass (n + 1) s =
    match onePass (setBudget (n + 1) s) with
    | .next t =>
      match stopOf t.outcome with
      | some a => .next (setBudget 0 t, .stopped a)
      | none => runLoop onePass n t
    | .fault r => .fault r
    | .refused r => .refused r := rfl

/-- RUN overwrites the budget before it looks at anything. -/
theorem runLoop_setBudget (onePass : State → Result) (m n : Nat) (s : State) :
    runLoop onePass n (setBudget m s) = runLoop onePass n s := by
  cases n <;> rfl

/-- RUN(a) that completes, then RUN(b), is RUN(a + b): each pass does the same with the larger budget. -/
theorem runLoop_add (c : Collaborators) (a b : Nat) (s t : State) (h : runLoop (pass c) a s = .next (t, .completed)) :
    runLoop (pass c) b t = runLoop (pass c) (a + b) s := by
  induction a generalizing s with
  | zero =>
    cases h
    rw [Nat.zero_add]
    exact runLoop_setBudget _ 0 b s
  | succ a ih =>
    have hlarger : pass c (setBudget (a + b + 1) s) = (pass c (setBudget (a + 1) s)).setBudget (a + b + 1) :=
      pass_setBudget (a + b + 1) (setBudget (a + 1) s) c
    rw [Nat.add_right_comm]
    rw [runLoop_succ] at h ⊢
    rw [hlarger]
    cases hp : pass c (setBudget (a + 1) s) with
    | next u =>
      simp only [hp] at h
      simp only [Result.setBudget, setBudget_outcome]
      cases hstop : stopOf u.outcome with
      | some x =>
        simp only [hstop] at h
        cases h
      | none =>
        simp only [hstop] at h
        rw [ih u h]
        exact (runLoop_setBudget _ _ _ _).symm
    | fault r =>
      simp only [hp] at h
      cases h
    | refused r =>
      simp only [hp] at h
      cases h

theorem runWith_idle (onePass : State → Result) (n : Nat) {s : State} (h : s.phase = .idle) :
    runWith onePass n s = runLoop onePass n s := if_pos h

/-- A RUN of passes that completes ends in IDLE. -/
theorem idle_of_runLoop {c : Collaborators} {n : Nat} {s t : State} {a : RunAnswer} (hs : s.phase = .idle)
    (h : runLoop (pass c) n s = .next (t, a)) : t.phase = .idle := by
  induction n generalizing s with
  | zero =>
    cases h
    exact hs
  | succ n ih =>
    simp only [runLoop] at h
    cases hp : pass c { s with budget := n + 1 } with
    | next u =>
      obtain ⟨hu, -, -⟩ := pass_next hp
      simp only [hp] at h
      cases hstop : stopOf u.outcome with
      | some x =>
        simp only [hstop] at h
        cases h
        exact hu
      | none =>
        simp only [hstop] at h
        exact ih hu h
    | fault r =>
      simp only [hp] at h
      cases h
    | refused r =>
      simp only [hp] at h
      cases h

/-- Settles O28: RUN is a loop of passes that do not read the budget. -/
theorem runCountsPassesAndStopsAtABreakpoint : Obligations.RunCountsPassesAndStopsAtABreakpoint := by
  unfold Obligations.RunCountsPassesAndStopsAtABreakpoint
  intro c s hs
  refine ⟨fun a b t h => ?_, runWith_idle _ 0 hs, fun n r h => ?_, fun n r h => ?_, fun n t h => ⟨fun a ho => ?_, fun ho => ?_⟩⟩
  · rw [runWith_idle _ _ hs] at h
    rw [runWith_idle _ _ hs, runWith_idle _ _ (idle_of_runLoop hs h)]
    exact runLoop_add c a b s t h
  · simp only [runWith_idle _ _ hs, runLoop, h]
  · simp only [runWith_idle _ _ hs, runLoop, h]
  · simp only [runWith_idle _ _ hs, runLoop, h, ho, stopOf]
  · obtain ⟨ht, -, -⟩ := pass_next h
    refine runWith_succ_of_next hs h ht ?_
    obtain ho | ⟨k, v, ho⟩ := ho
    · rw [ho]
      rfl
    · rw [ho]
      rfl

/-! ## The reference machine at reset (10_state.md R24) -/

theorem consistentMnemonics_refDecls : consistentMnemonics refDecls = true := by decide +kernel

theorem missingHandler_refDecls : missingHandler refDecls (refMnemonics.map refBinding) = none := by decide +kernel

theorem conforms_refTrees : (conforms (decideTree refTree32) && conforms (decideTree refTree64)) = true := by decide +kernel

theorem restrictBinding_refDecls : restrictBinding refDecls (refMnemonics.map refBinding) = refBind := by decide +kernel

/-- STARTUP accepts the reference set. -/
theorem startupChecks_refDecls :
    startupChecks refDecls (refMnemonics.map refBinding) = .ok (refTree32, refTree64, refBind) :=
  (startupChecks_ok _ _ _ _ _).mpr ⟨build_refDecls32, build_refDecls64, consistentMnemonics_refDecls, missingHandler_refDecls,
    conforms_refTrees, restrictBinding_refDecls.symm⟩

/-- Settles O29: STARTUP accepts the reference set and leaves what RESET completes to the reset state. -/
theorem resetStateIsStartupThenReset : Obligations.ResetStateIsStartupThenReset := by
  unfold Obligations.ResetStateIsStartupThenReset
  refine ⟨ready Config.xlenReset refTree32 refTree64 refBind (unbuilt { Cpu.reset with pc := 0 }), ?_, rfl, rfl, rfl, rfl, rfl, rfl⟩
  have hp : (unbuilt { Cpu.reset with pc := 0 }).phase = .unbuilt := rfl
  simp only [startup, if_pos hp, startupChecks_refDecls]

end Sys2Proof.Machine
end

section
/-! PROOFS. Register values of either width as words of that many bits, and as exact integers (logs 7, 8). -/

namespace Sys2Proof.Machine

open Sys2Proof.Claims

/-! ## The low `xlen` bits -/

/-- The low `xlen` bits of a value. -/
def low (x : Xlen) (v : Word) : BitVec (bits x) := v.setWidth (bits x)

theorem bits_cases (x : Xlen) : bits x = 32 ∨ bits x = 64 := by cases x <;> simp [bits]

theorem bits_pos (x : Xlen) : 0 < bits x := by cases x <;> decide

theorem bits_le (x : Xlen) : bits x ≤ 64 := by cases x <;> decide

theorem le_bits (x : Xlen) : 32 ≤ bits x := by cases x <;> decide

theorem two_pow_bits_dvd (x : Xlen) : (2 : Int) ^ bits x ∣ 2 ^ 64 := by cases x <;> decide

theorem sval_eq (x : Xlen) (v : Word) : sval x v = (low x v).toInt := by cases x <;> simp [sval, low, bits]

theorem uval_eq (x : Xlen) (v : Word) : uval x v = (low x v).toNat := by cases x <;> simp [uval, low, bits]

theorem reg_eq (x : Xlen) (i : Int) : reg x i = (BitVec.ofInt (bits x) i).signExtend 64 := by
  cases x
  · rfl
  · exact (BitVec.signExtend_eq _).symm

theorem canon_eq (x : Xlen) (v : Word) : canon x v = (low x v).signExtend 64 := by
  cases x
  · rfl
  · simp [canon, low, bits, BitVec.signExtend_eq]

theorem wrapAddr_eq (x : Xlen) (a : Word) : wrapAddr x a = (low x a).setWidth 64 := by
  cases x <;> simp [wrapAddr, low, bits]

theorem low_aluAt (x : Xlen) (f : (w : Nat) → BitVec w → BitVec w → BitVec w) (a b : Word) :
    low x (aluAt x f a b) = f (bits x) (low x a) (low x b) := by
  cases x <;> simp [low, aluAt, bits]

theorem compareAt_eq (x : Xlen) (f : (w : Nat) → BitVec w → BitVec w → Bool) (a b : Word) :
    compareAt x f a b = f (bits x) (low x a) (low x b) := by
  cases x <;> simp [low, compareAt, bits]

/-! ## Words as integers -/

/-- Truncation of a word is truncation of its signed value. -/
theorem setWidth_eq_ofInt {w n : Nat} (h : n ≤ w) (v : BitVec w) : v.setWidth n = BitVec.ofInt n v.toInt := by
  refine BitVec.eq_of_toInt_eq ?_
  rw [BitVec.toInt_setWidth, BitVec.toInt_ofInt, BitVec.toInt_eq_toNat_bmod]
  exact (Int.bmod_bmod_of_dvd (Nat.pow_dvd_pow 2 h)).symm

/-- A value is as good as any integer that differs from it by a multiple of 2^w. -/
theorem ofInt_eq_ofInt {w : Nat} {i j : Int} (h : i % 2 ^ w = j % 2 ^ w) : BitVec.ofInt w i = BitVec.ofInt w j := by
  refine BitVec.eq_of_toNat_eq ?_
  rw [BitVec.toNat_ofInt, BitVec.toNat_ofInt]
  push_cast
  rw [h]

theorem ofInt_toNat {w : Nat} (a : BitVec w) : BitVec.ofInt w (a.toNat : Int) = a := by
  rw [BitVec.ofInt_natCast, BitVec.ofNat_toNat, BitVec.setWidth_eq]

theorem low_eq_ofInt (x : Xlen) (v : Word) : low x v = BitVec.ofInt (bits x) v.toInt := setWidth_eq_ofInt (bits_le x) v

/-- A signed immediate keeps its value at either width. -/
theorem toInt_low_simm (x : Xlen) {n : Nat} (h : n ≤ 32) (v : BitVec n) : (low x (simm v)).toInt = v.toInt := by
  have hlow : low x (simm v) = v.signExtend (bits x) := by
    refine BitVec.eq_of_getLsbD_eq fun i hi => ?_
    have hlt := hi.trans_le (bits_le x)
    simp only [low, simm, BitVec.getLsbD_setWidth, BitVec.getLsbD_signExtend, hi, hlt, decide_true, Bool.true_and]
  rw [hlow, BitVec.toInt_signExtend_of_le (h.trans (le_bits x))]

/-- An unsigned immediate keeps its value at either width. -/
theorem toNat_low_uimm (x : Xlen) {n : Nat} (h : n ≤ 32) (v : BitVec n) : (low x (uimm v)).toNat = v.toNat := by
  have hn := h.trans (le_bits x)
  rw [low, uimm, BitVec.setWidth_setWidth_of_le _ (bits_le x), BitVec.toNat_setWidth_of_le hn]

/-! ## Results in a register -/

/-- The exact value in a register is the register's own form of the word. -/
theorem canon_eq_reg (x : Xlen) (v : Word) : canon x v = reg x v.toInt := by
  rw [canon_eq, reg_eq, low_eq_ofInt]

/-- The result of an operation at the active width, given its value as an integer. -/
theorem canon_aluAt {x : Xlen} {f : (w : Nat) → BitVec w → BitVec w → BitVec w} {a b : Word} {i : Int}
    (h : f (bits x) (low x a) (low x b) = BitVec.ofInt (bits x) i) : canon x (aluAt x f a b) = reg x i := by
  rw [canon_eq, low_aluAt, h, reg_eq]

/-- The result of a word operation, given its value as an integer. -/
theorem canon_aluWord {x : Xlen} {f : (w : Nat) → BitVec w → BitVec w → BitVec w} {a b : Word} {i : Int}
    (h : f 32 (low .w32 a) (low .w32 b) = BitVec.ofInt 32 i) : canon x (aluWord f a b) = word x i := by
  change canon x ((f 32 (low .w32 a) (low .w32 b)).signExtend 64) = _
  rw [h, canon_eq_reg, BitVec.toInt_signExtend_of_le (by decide), word]

/-! ## The operations on words of `w` bits, as integers -/

section
variable {w : Nat} (a b : BitVec w)

theorem opAdd_eq : opAdd w a b = BitVec.ofInt w (a.toInt + b.toInt) := by
  rw [BitVec.ofInt_add, BitVec.ofInt_toInt, BitVec.ofInt_toInt, opAdd]

theorem opSub_eq : opSub w a b = BitVec.ofInt w (a.toInt - b.toInt) := by
  rw [Int.sub_eq_add_neg, BitVec.ofInt_add, BitVec.ofInt_neg, BitVec.ofInt_toInt, BitVec.ofInt_toInt, opSub, BitVec.sub_eq_add_neg]

theorem opMul_eq : opMul w a b = BitVec.ofInt w (a.toInt * b.toInt) := by
  rw [BitVec.ofInt_mul, BitVec.ofInt_toInt, BitVec.ofInt_toInt, opMul]

theorem shiftLeft_eq_ofInt (k : Nat) : a <<< k = BitVec.ofInt w (a.toNat * 2 ^ k) := by
  refine BitVec.eq_of_toNat_eq ?_
  rw [BitVec.toNat_shiftLeft, Nat.shiftLeft_eq, BitVec.toNat_ofInt]
  norm_cast

theorem ushiftRight_eq_ofInt (k : Nat) : a >>> k = BitVec.ofInt w (a.toNat / 2 ^ k) := by
  rw [← ofInt_toNat (a >>> k), BitVec.toNat_ushiftRight, Nat.shiftRight_eq_div_pow]
  norm_cast

theorem sshiftRight_eq_ofInt (k : Nat) : a.sshiftRight k = BitVec.ofInt w (a.toInt / 2 ^ k) := by
  rw [← BitVec.ofInt_toInt (x := a.sshiftRight k), BitVec.toInt_sshiftRight, Int.shiftRight_eq_div_pow]
  norm_cast

theorem opCond_eq (f : (w : Nat) → BitVec w → BitVec w → Bool) : opCond f w a b = BitVec.ofInt w (ofBool (f w a b)) := by
  cases h : f w a b
  · simp [opCond, h, ofBool]
  · simp [opCond, h, ofBool]

theorem condLt_eq : condLt w a b = decide (a.toInt < b.toInt) := rfl

theorem condLtu_eq : condLtu w a b = decide (a.toNat < b.toNat) := rfl

/-- The high half of a product of double width is the quotient of the exact product. -/
theorem extractLsb'_ofInt (i : Int) : (BitVec.ofInt (w + w) i).extractLsb' w w = BitVec.ofInt w (i / 2 ^ w) := by
  refine BitVec.eq_of_toNat_eq ?_
  have hpos : (0 : Int) < 2 ^ w := by positivity
  have hmod : 0 ≤ i % 2 ^ (w + w) := Int.emod_nonneg _ (by positivity)
  rw [BitVec.extractLsb'_toNat, BitVec.toNat_ofInt, BitVec.toNat_ofInt, Nat.shiftRight_eq_div_pow]
  apply Int.ofNat.inj
  change ((_ : Nat) : Int) = ((_ : Nat) : Int)
  push_cast
  rw [Int.toNat_of_nonneg hmod, Int.toNat_of_nonneg (Int.emod_nonneg _ (by positivity)), pow_add,
    Int.emod_def i, Int.mul_assoc, Int.sub_eq_add_neg, ← Int.mul_neg, Int.add_mul_ediv_left _ _ hpos.ne', ← Int.mul_neg,
    Int.add_mul_emod_self_left]

theorem signExtend_eq_ofInt {n : Nat} (h : w ≤ n) : a.signExtend n = BitVec.ofInt n a.toInt := by
  rw [← BitVec.ofInt_toInt (x := a.signExtend n), BitVec.toInt_signExtend_of_le h]

theorem setWidth_eq_ofInt_toNat {n : Nat} (h : w ≤ n) : a.setWidth n = BitVec.ofInt n a.toNat := by
  rw [← ofInt_toNat (a.setWidth n), BitVec.toNat_setWidth_of_le h]

theorem opMulh_eq : opMulh w a b = BitVec.ofInt w (a.toInt * b.toInt / 2 ^ w) := by
  have h : w ≤ w + w := Nat.le_add_left w w
  rw [opMulh, signExtend_eq_ofInt a h, signExtend_eq_ofInt b h, ← BitVec.ofInt_mul, extractLsb'_ofInt]

theorem opMulhsu_eq : opMulhsu w a b = BitVec.ofInt w (a.toInt * b.toNat / 2 ^ w) := by
  have h : w ≤ w + w := Nat.le_add_left w w
  rw [opMulhsu, signExtend_eq_ofInt a h, setWidth_eq_ofInt_toNat b h, ← BitVec.ofInt_mul, extractLsb'_ofInt]

theorem opMulhu_eq : opMulhu w a b = BitVec.ofInt w ((a.toNat : Int) * b.toNat / 2 ^ w) := by
  have h : w ≤ w + w := Nat.le_add_left w w
  rw [opMulhu, setWidth_eq_ofInt_toNat a h, setWidth_eq_ofInt_toNat b h, ← BitVec.ofInt_mul, extractLsb'_ofInt]

theorem toInt_eq_zero_iff : b.toInt = 0 ↔ b = 0#w := by
  rw [← BitVec.toInt_inj, BitVec.toInt_zero]

theorem toNat_eq_zero_iff : b.toNat = 0 ↔ b = 0#w := by
  rw [← BitVec.toNat_inj, BitVec.toNat_ofNat, Nat.zero_mod]

theorem sdiv_eq_ofInt : a.sdiv b = BitVec.ofInt w (a.toInt.tdiv b.toInt) := by
  rw [← BitVec.toInt_inj, BitVec.toInt_sdiv, BitVec.toInt_ofInt]

theorem srem_eq_ofInt : a.srem b = BitVec.ofInt w (a.toInt.tmod b.toInt) := by
  rw [← BitVec.ofInt_toInt (x := a.srem b), BitVec.toInt_srem]

theorem udiv_eq_ofInt : a / b = BitVec.ofInt w ((a.toNat / b.toNat : Nat) : Int) := by
  rw [← ofInt_toNat (a / b), BitVec.toNat_udiv]

theorem umod_eq_ofInt : a % b = BitVec.ofInt w ((a.toNat % b.toNat : Nat) : Int) := by
  rw [← ofInt_toNat (a % b), BitVec.toNat_umod]

theorem allOnes_eq_ofInt : BitVec.allOnes w = BitVec.ofInt w (-1) := by
  rw [BitVec.ofInt_neg, ← BitVec.neg_one_eq_allOnes]
  rfl

theorem opDiv_eq : opDiv w a b = BitVec.ofInt w (if b.toInt = 0 then -1 else a.toInt.tdiv b.toInt) := by
  simp only [toInt_eq_zero_iff, opDiv, BitVec.ofNat_eq_ofNat]
  split
  · exact allOnes_eq_ofInt
  · exact sdiv_eq_ofInt a b

theorem opDivu_eq : opDivu w a b = BitVec.ofInt w (if b.toNat = 0 then -1 else (a.toNat / b.toNat : Nat)) := by
  simp only [toNat_eq_zero_iff, opDivu, BitVec.ofNat_eq_ofNat]
  split
  · exact allOnes_eq_ofInt
  · exact udiv_eq_ofInt a b

theorem opRem_eq : opRem w a b = BitVec.ofInt w (if b.toInt = 0 then a.toInt else a.toInt.tmod b.toInt) := by
  simp only [toInt_eq_zero_iff, opRem, BitVec.ofNat_eq_ofNat]
  split
  · exact BitVec.ofInt_toInt.symm
  · exact srem_eq_ofInt a b

theorem opRemu_eq : opRemu w a b = BitVec.ofInt w (if b.toNat = 0 then (a.toNat : Int) else (a.toNat % b.toNat : Nat)) := by
  simp only [toNat_eq_zero_iff, opRemu, BitVec.ofNat_eq_ofNat]
  split
  · exact (ofInt_toNat a).symm
  · exact umod_eq_ofInt a b

end

/-! ## Addresses as integers (log 8) -/

/-- The address of an integer goes by the low `xlen` bits alone. -/
theorem addr_eq (x : Xlen) (i : Int) : addr x i = (BitVec.ofInt (bits x) i).setWidth 64 := by
  refine BitVec.eq_of_toNat_eq ?_
  have hlt : (i % 2 ^ bits x).toNat < 2 ^ bits x := by
    have := Int.emod_lt_of_pos i (show (0 : Int) < 2 ^ bits x by positivity)
    have := Int.emod_nonneg i (show (2 : Int) ^ bits x ≠ 0 by positivity)
    zify
    omega
  have hle : 2 ^ bits x ≤ 2 ^ 64 := Nat.pow_le_pow_right (by decide) (bits_le x)
  rw [BitVec.toNat_setWidth_of_le (bits_le x), BitVec.toNat_ofInt, addr,
    ← Int.toNat_of_nonneg (Int.emod_nonneg i (show (2 : Int) ^ bits x ≠ 0 by positivity)), BitVec.ofInt_natCast, BitVec.toNat_ofNat,
    Nat.mod_eq_of_lt (by omega)]
  push_cast
  rfl

theorem wrapAddr_eq_addr (x : Xlen) (v : Word) : wrapAddr x v = addr x v.toInt := by
  rw [wrapAddr_eq, addr_eq, low_eq_ofInt]

theorem addr_congr {x : Xlen} {i j : Int} (h : i % 2 ^ bits x = j % 2 ^ bits x) : addr x i = addr x j := by
  rw [addr, addr, h]

/-- The signed value of a word, as an integer modulo 2^xlen, goes by its low `xlen` bits. -/
theorem toInt_emod_bits (x : Xlen) (v : Word) : v.toInt % 2 ^ bits x = (low x v).toInt % 2 ^ bits x := by
  rw [low_eq_ofInt, BitVec.toInt_ofInt]
  exact (Int.bmod_emod ..).symm

end Sys2Proof.Machine
end

section
/-! PROOFS. Instructions that write one register: their result and their frame (46_, 47_ and 48_, "Conventional meaning of the
handler"). -/

namespace Sys2Proof.Machine

open Sys2Proof.Claims

/-! ## Frames -/

/-- The CPU state but `pc` and the registers is the same. -/
structure SameRest (c d : Cpu) : Prop where
  xlen     : d.xlen = c.xlen
  csr      : d.csr = c.csr
  mem      : d.mem = c.mem
  priv     : d.priv = c.priv
  unmapped : d.unmapped = c.unmapped
  align    : d.align = c.align

theorem SameRest.rfl {c : Cpu} : SameRest c c := ⟨.refl _, .refl _, .refl _, .refl _, .refl _, .refl _⟩

theorem SameRest.writeX {c d : Cpu} (h : SameRest c d) (rd : BitVec 5) (v : Word) : SameRest c (writeX d rd v) :=
  ⟨by rw [writeX_xlen, h.xlen], by rw [writeX_csr, h.csr], by rw [writeX_mem, h.mem], by rw [writeX_priv, h.priv],
    by rw [writeX_unmapped, h.unmapped], by rw [writeX_align, h.align]⟩

theorem SameRest.writePc {c d : Cpu} (h : SameRest c d) (t : Word) : SameRest c (writePc d t) :=
  ⟨h.xlen, h.csr, h.mem, h.priv, h.unmapped, h.align⟩

/-- The registers after a write, in the words of the statements. -/
theorem readX_writeX_eq (c : Cpu) (rd r : BitVec 5) (v : Word) :
    readX (writeX c rd v) r = if r = rd ∧ rd ≠ 0#5 then canon c.xlen v else readX c r := by
  rw [readX_writeX]
  by_cases hr : r = rd
  · subst hr
    by_cases h0 : r = 0#5
    · simp [h0]
    · simp [h0]
  · simp [hr]

/-- A meaning whose handler is done with `rd` written: what the statements call `Writes`. -/
theorem writes_of_done {i : Instr} {s : State} {k : PcClass} {n : Nat} {taken : Bool} {c : Cpu} {rd : BitVec 5} {v p : Word}
    (h : exec i s = .next (conclude deliver k n s (.done taken c)))
    (hregs : ∀ r, readX c r = if r = rd ∧ rd ≠ 0#5 then v else readX s.cpu r)
    (hpc : (if advances k taken then s.lat.pc0 + widthWord n else c.pc) = p) (same : SameRest s.cpu c) :
    Writes i s rd v p := by
  rw [conclude_done] at h
  exact ⟨_, h, rfl, rfl, hregs, hpc, fun a => by simp only [byteAt, same.mem], fun m => by simp only [csrGet, same.csr], same.priv,
    ⟨same.xlen, same.unmapped, same.align, rfl, rfl, rfl, rfl, rfl, rfl, rfl⟩⟩

/-- The same with no register written: what the statements call `OnlyPc`. -/
theorem onlyPc_of_done {i : Instr} {s : State} {k : PcClass} {n : Nat} {taken : Bool} {c : Cpu} {p : Word}
    (h : exec i s = .next (conclude deliver k n s (.done taken c))) (hregs : ∀ r, readX c r = readX s.cpu r)
    (hpc : (if advances k taken then s.lat.pc0 + widthWord n else c.pc) = p) (same : SameRest s.cpu c) :
    OnlyPc i s p := by
  rw [conclude_done] at h
  exact ⟨_, h, rfl, rfl, hregs, hpc, fun a => by simp only [byteAt, same.mem], fun m => by simp only [csrGet, same.csr], same.priv,
    ⟨same.xlen, same.unmapped, same.align, rfl, rfl, rfl, rfl, rfl, rfl, rfl⟩⟩

/-- A sequential instruction whose handler writes one register. -/
theorem writes_seq {i : Instr} {s : State} {n : Nat} {rd : BitVec 5} {v u : Word}
    (h : exec i s = .next (conclude deliver .seq n s (writeAnswer s.cpu rd v))) (hv : canon s.cpu.xlen v = u) :
    Writes i s rd u (after s n) := by
  subst hv
  exact writes_of_done h (fun r => readX_writeX_eq s.cpu rd r v) rfl (SameRest.rfl.writeX rd v)

theorem creg_eq_reg8 (r : BitVec 3) : creg r = reg8 r := by
  revert r
  decide

/-! ## Immediates -/

theorem toInt_simm {n : Nat} (h : n ≤ 64) (v : BitVec n) : (simm v).toInt = v.toInt := BitVec.toInt_signExtend_of_le h

theorem sval_simm (x : Xlen) {n : Nat} (h : n ≤ 32) (v : BitVec n) : sval x (simm v) = v.toInt := by
  rw [sval_eq, toInt_low_simm x h]

theorem uval_uimm (x : Xlen) {n : Nat} (h : n ≤ 32) (v : BitVec n) : uval x (uimm v) = v.toNat := by
  rw [uval_eq, toNat_low_uimm x h]

theorem sval_uimm (x : Xlen) {n : Nat} (h : n < 32) (v : BitVec n) : sval x (uimm v) = v.toNat := by
  have hv := v.isLt
  have hn : 2 ^ n ≤ 2 ^ (bits x - 1) := Nat.pow_le_pow_right (by decide) (by have := le_bits x; omega)
  have hx : 2 ^ (bits x - 1) * 2 = 2 ^ bits x := by
    rw [← pow_succ, Nat.sub_add_cancel (bits_pos x)]
  have hlow := toNat_low_uimm x h.le v
  rw [sval_eq, BitVec.toInt_eq_toNat_of_lt (by omega), hlow]

/-- A signed immediate taken as unsigned. -/
theorem uval_simm (x : Xlen) {n : Nat} (h : n ≤ 32) (v : BitVec n) : (uval x (simm v) : Int) = v.toInt % 2 ^ bits x := by
  rw [uval_eq, ← toInt_low_simm x h v, BitVec.toInt_eq_toNat_bmod, ← Nat.cast_ofNat (R := Int), ← Nat.cast_pow, Int.bmod_emod,
    Int.emod_eq_of_lt (by omega) (by exact_mod_cast (low x (simm v)).isLt)]

/-! ## Results at the active width -/

section
variable (x : Xlen) (a b : Word)

theorem canon_eq_reg_sval : canon x a = reg x (sval x a) := by
  rw [canon_eq, reg_eq, sval_eq, BitVec.ofInt_toInt]

theorem canon_add : canon x (a + b) = reg x (a.toInt + b.toInt) := by
  rw [canon_eq, reg_eq, BitVec.ofInt_add, ← low_eq_ofInt, ← low_eq_ofInt, low, BitVec.setWidth_add _ _ (bits_le x)]
  rfl

theorem canon_opAdd : canon x (aluAt x opAdd a b) = reg x (sval x a + sval x b) := by
  rw [sval_eq, sval_eq, canon_aluAt (opAdd_eq _ _)]

theorem canon_opSub : canon x (aluAt x opSub a b) = reg x (sval x a - sval x b) := by
  rw [sval_eq, sval_eq, canon_aluAt (opSub_eq _ _)]

theorem canon_opXor : canon x (aluAt x opXor a b) = reg x (a ^^^ b).toInt := by
  rw [← canon_eq_reg, canon_eq, canon_eq, low_aluAt, low, low, low, BitVec.setWidth_xor, opXor]

theorem canon_opOr : canon x (aluAt x opOr a b) = reg x (a ||| b).toInt := by
  rw [← canon_eq_reg, canon_eq, canon_eq, low_aluAt, low, low, low, BitVec.setWidth_or, opOr]

theorem canon_opAnd : canon x (aluAt x opAnd a b) = reg x (a &&& b).toInt := by
  rw [← canon_eq_reg, canon_eq, canon_eq, low_aluAt, low, low, low, BitVec.setWidth_and, opAnd]

theorem canon_opCond_lt : canon x (aluAt x (opCond condLt) a b) = reg x (ofBool (decide (sval x a < sval x b))) := by
  rw [sval_eq, sval_eq, ← condLt_eq, canon_aluAt (opCond_eq _ _ _)]

theorem canon_opCond_ltu : canon x (aluAt x (opCond condLtu) a b) = reg x (ofBool (decide (uval x a < uval x b))) := by
  rw [uval_eq, uval_eq, ← condLtu_eq, canon_aluAt (opCond_eq _ _ _)]

theorem canon_opSlli : canon x (aluAt x opSlli a b) = reg x (uval x a * 2 ^ uval x b) := by
  rw [uval_eq, uval_eq, canon_aluAt (shiftLeft_eq_ofInt _ _)]

theorem canon_opSrli : canon x (aluAt x opSrli a b) = reg x (uval x a / 2 ^ uval x b) := by
  rw [uval_eq, uval_eq, canon_aluAt (ushiftRight_eq_ofInt _ _)]

theorem canon_opSrai : canon x (aluAt x opSrai a b) = reg x (sval x a / 2 ^ uval x b) := by
  rw [sval_eq, uval_eq, canon_aluAt (sshiftRight_eq_ofInt _ _)]

theorem canon_opSll : canon x (aluAt x opSll a b) = reg x (uval x a * 2 ^ (uval x b % bits x)) := by
  rw [uval_eq, uval_eq, canon_aluAt (shiftLeft_eq_ofInt _ _)]

theorem canon_opSrl : canon x (aluAt x opSrl a b) = reg x (uval x a / 2 ^ (uval x b % bits x)) := by
  rw [uval_eq, uval_eq, canon_aluAt (ushiftRight_eq_ofInt _ _)]

theorem canon_opSra : canon x (aluAt x opSra a b) = reg x (sval x a / 2 ^ (uval x b % bits x)) := by
  rw [sval_eq, uval_eq, canon_aluAt (sshiftRight_eq_ofInt _ _)]

theorem canon_opMul : canon x (aluAt x opMul a b) = reg x (sval x a * sval x b) := by
  rw [sval_eq, sval_eq, canon_aluAt (opMul_eq _ _)]

theorem canon_opMulh : canon x (aluAt x opMulh a b) = reg x (sval x a * sval x b / 2 ^ bits x) := by
  rw [sval_eq, sval_eq, canon_aluAt (opMulh_eq _ _)]

theorem canon_opMulhsu : canon x (aluAt x opMulhsu a b) = reg x (sval x a * uval x b / 2 ^ bits x) := by
  rw [sval_eq, uval_eq, canon_aluAt (opMulhsu_eq _ _)]

theorem canon_opMulhu : canon x (aluAt x opMulhu a b) = reg x ((uval x a : Int) * uval x b / 2 ^ bits x) := by
  rw [uval_eq, uval_eq, canon_aluAt (opMulhu_eq _ _)]

theorem canon_opDiv :
    canon x (aluAt x opDiv a b) = reg x (if sval x b = 0 then -1 else (sval x a).tdiv (sval x b)) := by
  rw [sval_eq, sval_eq, canon_aluAt (opDiv_eq _ _)]

theorem canon_opDivu :
    canon x (aluAt x opDivu a b) = reg x (if uval x b = 0 then -1 else (uval x a / uval x b : Nat)) := by
  rw [uval_eq, uval_eq, canon_aluAt (opDivu_eq _ _)]

theorem canon_opRem :
    canon x (aluAt x opRem a b) = reg x (if sval x b = 0 then sval x a else (sval x a).tmod (sval x b)) := by
  rw [sval_eq, sval_eq, canon_aluAt (opRem_eq _ _)]

theorem canon_opRemu :
    canon x (aluAt x opRemu a b) = reg x (if uval x b = 0 then (uval x a : Int) else (uval x a % uval x b : Nat)) := by
  rw [uval_eq, uval_eq, canon_aluAt (opRemu_eq _ _)]

/-! ## Results of the word forms -/

theorem canon_wordAdd : canon x (aluWord opAdd a b) = word x (sval .w32 a + sval .w32 b) := by
  rw [sval_eq, sval_eq, canon_aluWord (opAdd_eq _ _)]

theorem canon_wordSub : canon x (aluWord opSub a b) = word x (sval .w32 a - sval .w32 b) := by
  rw [sval_eq, sval_eq, canon_aluWord (opSub_eq _ _)]

theorem canon_wordMul : canon x (aluWord opMul a b) = word x (sval .w32 a * sval .w32 b) := by
  rw [sval_eq, sval_eq, canon_aluWord (opMul_eq _ _)]

theorem canon_wordSlli : canon x (aluWord opSlli a b) = word x (uval .w32 a * 2 ^ uval .w32 b) := by
  rw [uval_eq, uval_eq, canon_aluWord (shiftLeft_eq_ofInt _ _)]
  rfl

theorem canon_wordSrli : canon x (aluWord opSrli a b) = word x (uval .w32 a / 2 ^ uval .w32 b) := by
  rw [uval_eq, uval_eq, canon_aluWord (ushiftRight_eq_ofInt _ _)]
  rfl

theorem canon_wordSrai : canon x (aluWord opSrai a b) = word x (sval .w32 a / 2 ^ uval .w32 b) := by
  rw [sval_eq, uval_eq, canon_aluWord (sshiftRight_eq_ofInt _ _)]
  rfl

theorem canon_wordSll : canon x (aluWord opSll a b) = word x (uval .w32 a * 2 ^ (uval .w32 b % 32)) := by
  rw [uval_eq, uval_eq, canon_aluWord (shiftLeft_eq_ofInt _ _)]
  rfl

theorem canon_wordSrl : canon x (aluWord opSrl a b) = word x (uval .w32 a / 2 ^ (uval .w32 b % 32)) := by
  rw [uval_eq, uval_eq, canon_aluWord (ushiftRight_eq_ofInt _ _)]
  rfl

theorem canon_wordSra : canon x (aluWord opSra a b) = word x (sval .w32 a / 2 ^ (uval .w32 b % 32)) := by
  rw [sval_eq, uval_eq, canon_aluWord (sshiftRight_eq_ofInt _ _)]
  rfl

/-- A sign-extended 32-bit result in a register. -/
theorem canon_signExtend32 (v : BitVec 32) : canon x (v.signExtend 64) = word x v.toInt := by
  rw [canon_eq_reg, BitVec.toInt_signExtend_of_le (by decide), word, BitVec.ofInt_toInt]

theorem word_toInt_ofInt (i : Int) : word x (BitVec.ofInt 32 i).toInt = word x i := by
  rw [word, BitVec.ofInt_toInt, word]

end

/-! ## Sums, differences and moves -/

/-- Settles O30: each is one write of an exact sum, difference or value. -/
theorem moveSumAndDifferenceResults : Obligations.MoveSumAndDifferenceResults := by
  unfold Obligations.MoveSumAndDifferenceResults
  intro s rd rs1 rs2 p q
  simp only [S, ← creg_eq_reg8]
  refine ⟨fun imm => writes_seq rfl ?_, fun imm => writes_seq rfl ?_, fun imm => writes_seq rfl ?_, fun imm => writes_seq rfl ?_,
    writes_seq rfl ?_, fun imm => writes_seq rfl ?_, writes_seq rfl ?_, writes_seq rfl ?_, fun imm => writes_seq rfl ?_,
    fun imm => writes_seq rfl ?_, fun imm => writes_seq rfl ?_, writes_seq rfl ?_, writes_seq rfl ?_⟩
  case refine_1 => rw [canon_eq_reg, toInt_simm (by decide)]
  case refine_2 => rw [canon_add, toInt_simm (by decide)]
  case refine_3 => rw [canon_eq_reg, toInt_simm (by decide)]
  case refine_4 => rw [canon_eq_reg, toInt_simm (by decide)]
  case refine_5 => exact canon_eq_reg_sval _ _
  case refine_6 => rw [canon_opAdd, sval_simm _ (by decide)]
  case refine_7 => exact canon_opAdd _ _ _
  case refine_8 => exact canon_opSub _ _ _
  case refine_9 => rw [canon_opAdd, sval_simm _ (by decide)]
  case refine_10 => rw [canon_opAdd, sval_simm _ (by decide)]
  case refine_11 => rw [canon_opAdd, sval_uimm _ (by decide)]
  case refine_12 => exact canon_opAdd _ _ _
  case refine_13 => exact canon_opSub _ _ _

/-- Settles O31: the bitwise operations on the whole words, narrowed. -/
theorem bitwiseResults : Obligations.BitwiseResults := by
  unfold Obligations.BitwiseResults
  intro s rd rs1 rs2 p q
  simp only [← creg_eq_reg8]
  exact ⟨fun imm => writes_seq rfl (canon_opXor _ _ _), fun imm => writes_seq rfl (canon_opOr _ _ _),
    fun imm => writes_seq rfl (canon_opAnd _ _ _), writes_seq rfl (canon_opXor _ _ _), writes_seq rfl (canon_opOr _ _ _),
    writes_seq rfl (canon_opAnd _ _ _), fun imm => writes_seq rfl (canon_opAnd _ _ _), writes_seq rfl (canon_opXor _ _ _),
    writes_seq rfl (canon_opOr _ _ _), writes_seq rfl (canon_opAnd _ _ _)⟩

/-- Settles O32: the signed and the unsigned comparison. -/
theorem setLessThanResults : Obligations.SetLessThanResults := by
  unfold Obligations.SetLessThanResults
  intro s rd rs1 rs2
  refine ⟨fun imm => writes_seq rfl ?_, fun imm => writes_seq rfl ?_, writes_seq rfl (canon_opCond_lt _ _ _),
    writes_seq rfl (canon_opCond_ltu _ _ _)⟩
  · rw [canon_opCond_lt, sval_simm _ (by decide)]
    rfl
  · rw [canon_opCond_ltu, ← uval_simm _ (show 12 ≤ 32 by decide)]
    simp only [Nat.cast_lt]
    rfl

/-- Settles O33: shifts by an immediate and by a register modulo the width. -/
theorem shiftResults : Obligations.ShiftResults := by
  unfold Obligations.ShiftResults
  intro s rd rs1 rs2 p
  simp only [← creg_eq_reg8]
  have sll {n : Nat} (h : n ≤ 32) (r : BitVec 5) (k : BitVec n) :
      canon s.cpu.xlen (aluAt s.cpu.xlen opSlli (readX s.cpu r) (uimm k)) = reg s.cpu.xlen (U s r * 2 ^ k.toNat) := by
    rw [canon_opSlli, uval_uimm _ h]
    rfl
  have srl {n : Nat} (h : n ≤ 32) (r : BitVec 5) (k : BitVec n) :
      canon s.cpu.xlen (aluAt s.cpu.xlen opSrli (readX s.cpu r) (uimm k)) = reg s.cpu.xlen (U s r / 2 ^ k.toNat) := by
    rw [canon_opSrli, uval_uimm _ h]
    rfl
  have sra {n : Nat} (h : n ≤ 32) (r : BitVec 5) (k : BitVec n) :
      canon s.cpu.xlen (aluAt s.cpu.xlen opSrai (readX s.cpu r) (uimm k)) = reg s.cpu.xlen (S s r / 2 ^ k.toNat) := by
    rw [canon_opSrai, uval_uimm _ h]
    rfl
  have h5 : 5 ≤ 32 := by decide
  have h6 : 6 ≤ 32 := by decide
  exact ⟨fun n => writes_seq rfl (sll h5 rs1 n), fun n => writes_seq rfl (sll h6 rs1 n), fun n => writes_seq rfl (srl h5 rs1 n),
    fun n => writes_seq rfl (srl h6 rs1 n), fun n => writes_seq rfl (sra h5 rs1 n), fun n => writes_seq rfl (sra h6 rs1 n),
    writes_seq rfl (canon_opSll _ _ _), writes_seq rfl (canon_opSrl _ _ _), writes_seq rfl (canon_opSra _ _ _),
    fun n => writes_seq rfl (sll h5 rd n), fun n => writes_seq rfl (sll h6 rd n), fun n => writes_seq rfl (srl h5 _ n),
    fun n => writes_seq rfl (srl h6 _ n), fun n => writes_seq rfl (sra h5 _ n), fun n => writes_seq rfl (sra h6 _ n)⟩

/-- Settles O34: the same operations on the low 32 bits. -/
theorem wordOperationResults : Obligations.WordOperationResults := by
  unfold Obligations.WordOperationResults
  intro s rd rs1 rs2 p q
  simp only [S32, U32, ← creg_eq_reg8]
  refine ⟨fun imm => writes_seq rfl ?_, fun n => writes_seq rfl ?_, fun n => writes_seq rfl ?_, fun n => writes_seq rfl ?_,
    writes_seq rfl (canon_wordAdd _ _ _), writes_seq rfl (canon_wordSub _ _ _), writes_seq rfl (canon_wordSll _ _ _),
    writes_seq rfl (canon_wordSrl _ _ _), writes_seq rfl (canon_wordSra _ _ _), fun imm => writes_seq rfl ?_,
    writes_seq rfl (canon_wordSub _ _ _), writes_seq rfl (canon_wordAdd _ _ _)⟩
  case refine_1 => rw [canon_wordAdd, sval_simm _ (by decide)]
  case refine_2 => rw [canon_wordSlli, uval_uimm _ (by decide)]
  case refine_3 => rw [canon_wordSrli, uval_uimm _ (by decide)]
  case refine_4 => rw [canon_wordSrai, uval_uimm _ (by decide)]
  case refine_5 => rw [canon_wordAdd, sval_simm _ (by decide)]

/-! ## Multiplication and division -/

/-- Settles O35: the halves of the exact product. -/
theorem multiplyResults : Obligations.MultiplyResults := by
  unfold Obligations.MultiplyResults
  intro s rd rs1 rs2
  exact ⟨writes_seq rfl (canon_opMul _ _ _), writes_seq rfl (canon_opMulh _ _ _), writes_seq rfl (canon_opMulhsu _ _ _),
    writes_seq rfl (canon_opMulhu _ _ _), writes_seq rfl (canon_wordMul _ _ _)⟩

/-- The word divisions: the free value, or the quotient or remainder as an integer. -/
theorem canon_divisionOr (x : Xlen) (free : BitVec 32 → BitVec 32) (f : BitVec 32 → BitVec 32 → BitVec 32) (a b : BitVec 32) (i : Int)
    (h : f a b = BitVec.ofInt 32 i) :
    canon x ((divisionOr free f a b).signExtend 64) = word x (if b = 0 then (free a).toInt else i) := by
  unfold divisionOr
  split
  · exact canon_signExtend32 x _
  · rw [canon_signExtend32, h, word_toInt_ofInt]

/-- Settles O36: the quotients and remainders, with the zero divisor apart. -/
theorem divideResults : Obligations.DivideResults := by
  unfold Obligations.DivideResults
  intro s rd rs1 rs2
  have hs (v : Word) : sval .w32 v = 0 ↔ v.setWidth 32 = 0#32 := toInt_eq_zero_iff _
  have hu (v : Word) : uval .w32 v = 0 ↔ v.setWidth 32 = 0#32 := toNat_eq_zero_iff _
  simp only [S32, U32, hs, hu]
  exact ⟨writes_seq rfl (canon_opDiv _ _ _), writes_seq rfl (canon_opDivu _ _ _), writes_seq rfl (canon_opRem _ _ _),
    writes_seq rfl (canon_opRemu _ _ _), writes_seq rfl (canon_divisionOr _ _ _ _ _ _ (sdiv_eq_ofInt _ _)),
    writes_seq rfl (canon_divisionOr _ _ _ _ _ _ (udiv_eq_ofInt _ _)), writes_seq rfl (canon_divisionOr _ _ _ _ _ _ (srem_eq_ofInt _ _)),
    writes_seq rfl (canon_divisionOr _ _ _ _ _ _ (umod_eq_ofInt _ _))⟩

end Sys2Proof.Machine
end

section
/-! PROOFS. Loads and stores: the bytes they move, what they leave unchanged, and the traps of an access (46_ and 48_,
"Conventional meaning of the handler"; 60_exceptions.md R203; logs 8, 9, 10, 26). -/

namespace Sys2Proof.Machine

open Sys2Proof.Claims

/-! ## The addresses of an access -/

theorem toNat_wrapAddr (x : Xlen) (a : Word) : (wrapAddr x a).toNat = a.toNat % 2 ^ bits x := by
  rw [wrapAddr_eq, low, BitVec.toNat_setWidth_of_le (bits_le x), BitVec.toNat_setWidth]

theorem toNat_nth (x : Xlen) (a : Word) (i : Nat) : (nth x a i).toNat = (a.toNat + i) % 2 ^ bits x := by
  rw [nth, BitVec.toNat_ofNat, Nat.mod_mod_of_dvd']
  exact Nat.pow_dvd_pow 2 (bits_le x)

/-- An effective address is the first address of its own access: it is already narrowed to the width. -/
theorem nth_effAddr (c : Cpu) (base : BitVec 5) (off : Word) : nth c.xlen (effAddr c base off) 0 = effAddr c base off := by
  apply BitVec.eq_of_toNat_eq
  rw [toNat_nth, effAddr, toNat_wrapAddr, Nat.add_zero, Nat.mod_mod]

theorem nextAddr_nth (x : Xlen) (a : Word) (i : Nat) : nextAddr x (nth x a i) = nth x a (i + 1) := by
  apply BitVec.eq_of_toNat_eq
  rw [nextAddr, toNat_wrapAddr, BitVec.toNat_add, toNat_nth, toNat_nth,
    Nat.mod_mod_of_dvd _ (Nat.pow_dvd_pow 2 (bits_le x))]
  exact Nat.mod_add_mod ..

theorem accessAddr_nth (x : Xlen) (a : Word) (j i : Nat) : accessAddr x (nth x a j) i = nth x a (j + i) := by
  induction i generalizing j with
  | zero => rfl
  | succ i ih => rw [accessAddr, nextAddr_nth, ih, Nat.succ_add_eq_add_succ]

/-- The bytes of one access have distinct addresses. -/
theorem nth_ne_nth (x : Xlen) (a : Word) {i j : Nat} (hij : i < j) (hj : j ≤ 8) : nth x a i ≠ nth x a j := by
  intro h
  have h := congrArg BitVec.toNat h
  rw [toNat_nth, toNat_nth] at h
  cases x <;> simp only [bits] at h <;> omega

/-! ## Why an access raises -/

section
variable {s : State} {a : Word} {n : Nat}

theorem misalignedAt_eq_false (h : s.cpu.align = .raises → a.toNat % n = 0) : misalignedAt s.cpu n a = false := by
  cases hp : s.cpu.align
  · simp [misalignedAt, h hp]
  · exact misalignedAt_completes s.cpu n a hp

variable (ha : nth s.cpu.xlen a 0 = a)
include ha

theorem accessAddr_eq_nth (i : Nat) : accessAddr s.cpu.xlen a i = nth s.cpu.xlen a i := by
  have h := accessAddr_nth s.cpu.xlen a 0 i
  rwa [ha, Nat.zero_add] at h

theorem dataTrap_of_accessible (h : Accessible s a n) : dataTrap s.cpu n a = none := by
  obtain ⟨hm, halign⟩ := h
  have hf : dataFault s.cpu n a = none :=
    (dataFault_none_iff s.cpu n a).mpr fun i hi => by rw [accessAddr_eq_nth ha]; exact hm i hi
  simp [dataTrap, misalignedAt_eq_false halign, hf]

end

/-- The tag that an access reports is that of its first unmapped page. -/
theorem dataFault_of_first (c : Cpu) {k : FetchTag} {n j : Nat} {a : Word} (hj : j < n)
    (hk : tagOf c.unmapped (pageOf (accessAddr c.xlen a j)) = some k)
    (hfirst : ∀ i < j, tagOf c.unmapped (pageOf (accessAddr c.xlen a i)) = none) : dataFault c n a = some k := by
  induction n generalizing j a with
  | zero => omega
  | succ n ih =>
    cases j with
    | zero => simp only [accessAddr] at hk; simp only [dataFault, hk]
    | succ j =>
      have h0 := hfirst 0 (Nat.succ_pos j)
      simp only [accessAddr] at h0
      simp only [dataFault, h0]
      exact ih (Nat.lt_of_succ_lt_succ hj) hk fun i hi => hfirst (i + 1) (Nat.succ_lt_succ hi)

theorem dataTrap_of_faults {s : State} {a : Word} {n : Nat} {k : DataTrap} (ha : nth s.cpu.xlen a 0 = a)
    (h : Faults s a n k) : dataTrap s.cpu n a = some k := by
  cases k with
  | misaligned =>
    obtain ⟨hp, hne⟩ := h
    simp [dataTrap, misalignedAt, hp, hne]
  | unmapped k =>
    obtain ⟨halign, j, hj, hk, hfirst⟩ := h
    simp only [← accessAddr_eq_nth ha] at hk hfirst
    simp [dataTrap, misalignedAt_eq_false halign, dataFault_of_first s.cpu hj hk hfirst]

/-! ## The bytes that a load gathers -/

/-- One byte more: it is the least significant one, the others move up. -/
theorem toNat_loadBytes_succ (c : Cpu) {n : Nat} (a : Word) (hn : n < 8)
    (hlt : (loadBytes c n (nextAddr c.xlen a)).toNat < 256 ^ n) :
    (loadBytes c (n + 1) a).toNat = (byteAt c a).toNat + 256 * (loadBytes c n (nextAddr c.xlen a)).toNat := by
  have hbyte := (byteAt c a).isLt
  have hpow : 256 ^ n ≤ 256 ^ 7 := Nat.pow_le_pow_right (by decide) (by omega)
  rw [loadBytes, BitVec.toNat_or, BitVec.toNat_setWidth_of_le (by decide), BitVec.toNat_shiftLeft, Nat.or_comm,
    Nat.mod_eq_of_lt (by rw [Nat.shiftLeft_eq]; omega), ← Nat.shiftLeft_add_eq_or_of_lt (by omega), Nat.shiftLeft_eq]
  omega

theorem toNat_loadBytes_lt (c : Cpu) {n : Nat} (a : Word) (hn : n ≤ 8) : (loadBytes c n a).toNat < 256 ^ n := by
  induction n generalizing a with
  | zero => simp [loadBytes]
  | succ n ih =>
    have h := ih (nextAddr c.xlen a) (by omega)
    have hbyte := (byteAt c a).isLt
    rw [toNat_loadBytes_succ c a hn h, pow_succ]
    omega

/-- The bytes from the `j`-th address on are the upper part of the little-endian value. -/
theorem leNat_add (s : State) (a : Word) {j n : Nat} (hn : n ≤ 8) :
    leNat s a (j + n) = leNat s a j + 256 ^ j * (loadBytes s.cpu n (nth s.cpu.xlen a j)).toNat := by
  induction n generalizing j with
  | zero => simp [loadBytes]
  | succ n ih =>
    rw [toNat_loadBytes_succ s.cpu _ hn (toNat_loadBytes_lt s.cpu _ (by omega)), nextAddr_nth, Nat.add_comm n 1,
      ← Nat.add_assoc, ih (by omega), leNat]
    ring

theorem toNat_loadBytes {s : State} {a : Word} {n : Nat} (ha : nth s.cpu.xlen a 0 = a) (hn : n ≤ 8) :
    (loadBytes s.cpu n a).toNat = leNat s a n := by
  have h := leNat_add s a (j := 0) hn
  rw [ha, Nat.zero_add] at h
  simpa [leNat] using h.symm

theorem two_pow_eight_mul (n : Nat) : 2 ^ (8 * n) = 256 ^ n := Nat.pow_mul ..

theorem canon_loadSigned {s : State} {a : Word} {n : Nat} (ha : nth s.cpu.xlen a 0 = a) (hn : n ≤ 8) :
    canon s.cpu.xlen (loadSigned (8 * n) (loadBytes s.cpu n a)) = reg s.cpu.xlen (leInt s a n) := by
  rw [canon_eq_reg, loadSigned, BitVec.toInt_signExtend_of_le (by omega), BitVec.toInt_eq_toNat_bmod, BitVec.toNat_setWidth,
    toNat_loadBytes ha hn, two_pow_eight_mul, leInt, Int.natCast_emod, Int.emod_bmod]

theorem canon_loadUnsigned {s : State} {a : Word} {n : Nat} (ha : nth s.cpu.xlen a 0 = a) (hn : n ≤ 4) :
    canon s.cpu.xlen (loadUnsigned (8 * n) (loadBytes s.cpu n a)) = reg s.cpu.xlen (leNat s a n) := by
  have hlt := toNat_loadBytes_lt s.cpu a (show n ≤ 8 by omega)
  have hpow : 256 ^ n ≤ 256 ^ 4 := Nat.pow_le_pow_right (by decide) hn
  have hval : (loadUnsigned (8 * n) (loadBytes s.cpu n a)).toNat = leNat s a n := by
    rw [loadUnsigned, BitVec.toNat_setWidth_of_le (by omega), BitVec.toNat_setWidth, two_pow_eight_mul, Nat.mod_eq_of_lt hlt,
      toNat_loadBytes ha (by omega)]
  rw [toNat_loadBytes ha (by omega)] at hlt
  rw [canon_eq_reg, BitVec.toInt_eq_toNat_of_lt (by omega), hval]

/-! ## The bytes that a store leaves -/

theorem toNat_ushiftRight_eight (v : Word) (i : Nat) : (v >>> 8).toNat / 256 ^ i = v.toNat / 256 ^ (i + 1) := by
  rw [BitVec.toNat_ushiftRight, Nat.shiftRight_eq_div_pow, Nat.div_div_eq_div_mul, pow_succ' 256 i]

theorem byteAt_storeBytes (x : Xlen) (a : Word) {n i j : Nat} (v : Word) (c : Cpu) (hm : Memory.wf c.mem = true)
    (hi : i < n) (hj : j + n ≤ 8) :
    byteAt (storeBytes x n (nth x a j) v c) (nth x a (j + i)) = BitVec.ofNat 8 (v.toNat / 256 ^ i) := by
  induction n generalizing i j v c with
  | zero => omega
  | succ n ih =>
    have hm' := Memory.wf_putByte c (nth x a j) (v.setWidth 8) hm
    rw [storeBytes, nextAddr_nth]
    cases i with
    | zero =>
      rw [byteAt_storeBytes_other x n _ _ _ _ hm' fun i hi => ?_, byteAt_putByte c _ _ _ hm, Nat.add_zero, if_pos rfl]
      · apply BitVec.eq_of_toNat_eq
        simp
      · rw [accessAddr_nth]
        exact nth_ne_nth x a (by omega) (by omega)
    | succ i =>
      have h := ih (i := i) (j := j + 1) (v >>> 8) _ hm' (by omega) (by omega)
      rwa [show j + 1 + i = j + (i + 1) by omega, toNat_ushiftRight_eight] at h

/-! ## The meanings -/

/-- A meaning whose handler raises on an untouched CPU state: what the statements call `Traps`. -/
theorem traps_of_raise {i : Instr} {s : State} {c : PcClass} {n : Nat} {k : TrapKind} {v : Word}
    (h : exec i s = .next (conclude deliver c n s (.raise k v s.cpu))) : Traps i s k v := by
  rw [conclude_raise] at h
  exact ⟨_, h, rfl, rfl, rfl, deliver_xlen .., deliver_unmapped .., deliver_align .., rfl, rfl, rfl, rfl, rfl, rfl, rfl⟩

section
variable {s : State} {i : Instr} {a : Word} {n w : Nat} (ha : nth s.cpu.xlen a 0 = a)
include ha

theorem writes_load {rd : BitVec 5} {extend : Word → Word} {v : Word}
    (h : exec i s = .next (conclude deliver .seq w s (loadAnswer s.cpu rd a n extend))) (hacc : Accessible s a n)
    (hv : canon s.cpu.xlen (extend (loadBytes s.cpu n a)) = v) : Writes i s rd v (after s w) := by
  simp only [loadAnswer, dataTrap_of_accessible ha hacc] at h
  exact writes_seq h hv

theorem stores_store {v : Word} (h : exec i s = .next (conclude deliver .seq w s (storeAnswer s.cpu a n v)))
    (hmem : s.memWf = true) (hn : n ≤ 8) (hacc : Accessible s a n) : Stores i s a n v (after s w) := by
  simp only [storeAnswer, dataTrap_of_accessible ha hacc, conclude_done] at h
  have hbytes (j : Nat) (hj : j < n) : byteAt (storeBytes s.cpu.xlen n a v s.cpu) (nth s.cpu.xlen a j) =
      BitVec.ofNat 8 (v.toNat / 256 ^ j) := by
    have hb := byteAt_storeBytes s.cpu.xlen a v s.cpu hmem hj (j := 0) (by omega)
    rwa [ha, Nat.zero_add] at hb
  refine ⟨_, h, rfl, rfl, fun r => readX_congr _ _ (storeBytes_x ..) r, rfl, hbytes, fun b hb => ?_,
    fun m => ?_, storeBytes_priv .., storeBytes_xlen .., storeBytes_unmapped .., storeBytes_align .., rfl, rfl, rfl, rfl, rfl, rfl, rfl⟩
  · exact byteAt_storeBytes_other _ n a v b s.cpu hmem fun i hi => by rw [accessAddr_eq_nth ha]; exact hb i hi
  · simp only [csrGet, storeBytes_csr]

theorem traps_load {rd : BitVec 5} {extend : Word → Word} {k : DataTrap}
    (h : exec i s = .next (conclude deliver .seq w s (loadAnswer s.cpu rd a n extend))) (hf : Faults s a n k) :
    Traps i s (loadTrap k) a := by
  simp only [loadAnswer, dataTrap_of_faults ha hf] at h
  exact traps_of_raise h

theorem traps_store {v : Word} {k : DataTrap} (h : exec i s = .next (conclude deliver .seq w s (storeAnswer s.cpu a n v)))
    (hf : Faults s a n k) : Traps i s (storeTrap k) a := by
  simp only [storeAnswer, dataTrap_of_faults ha hf] at h
  exact traps_of_raise h

end

/-- Settles O37: the bytes gathered, then extended and narrowed. -/
theorem loadResults : Obligations.LoadResults := by
  unfold Obligations.LoadResults
  intro s rd rs1 p q
  simp only [← creg_eq_reg8]
  have wrapped := nth_effAddr s.cpu
  have signed (n : Nat) (hn : n ≤ 8) (base : BitVec 5) (off : Word) := canon_loadSigned (nth_effAddr s.cpu base off) hn
  have unsigned (n : Nat) (hn : n ≤ 4) (base : BitVec 5) (off : Word) := canon_loadUnsigned (nth_effAddr s.cpu base off) hn
  exact ⟨fun imm => ⟨fun h => writes_load (wrapped ..) rfl h (signed 1 (by decide) ..),
      fun h => writes_load (wrapped ..) rfl h (signed 2 (by decide) ..),
      fun h => writes_load (wrapped ..) rfl h (signed 4 (by decide) ..),
      fun h => writes_load (wrapped ..) rfl h (signed 8 (by decide) ..),
      fun h => writes_load (wrapped ..) rfl h (unsigned 1 (by decide) ..),
      fun h => writes_load (wrapped ..) rfl h (unsigned 2 (by decide) ..),
      fun h => writes_load (wrapped ..) rfl h (unsigned 4 (by decide) ..)⟩,
    fun u h => writes_load (wrapped ..) rfl h (signed 4 (by decide) ..),
    fun u h => writes_load (wrapped ..) rfl h (signed 8 (by decide) ..),
    fun u h => writes_load (wrapped ..) rfl h (signed 4 (by decide) ..),
    fun u h => writes_load (wrapped ..) rfl h (signed 8 (by decide) ..)⟩

/-- Settles O38: the bytes of an access have distinct addresses, so each is what its own write left. -/
theorem storeResults : Obligations.StoreResults := by
  unfold Obligations.StoreResults
  intro s rs1 rs2 p q hm
  simp only [← creg_eq_reg8]
  have wrapped := nth_effAddr s.cpu
  exact ⟨fun imm => ⟨stores_store (wrapped ..) rfl hm (by decide), stores_store (wrapped ..) rfl hm (by decide),
      stores_store (wrapped ..) rfl hm (by decide), stores_store (wrapped ..) rfl hm (by decide)⟩,
    fun u => stores_store (wrapped ..) rfl hm (by decide), fun u => stores_store (wrapped ..) rfl hm (by decide),
    fun u => stores_store (wrapped ..) rfl hm (by decide), fun u => stores_store (wrapped ..) rfl hm (by decide)⟩

/-- Settles O39: the trap of an access is decided before its handler writes. -/
theorem dataAccessFaultsLeaveNoTrace : Obligations.DataAccessFaultsLeaveNoTrace := by
  unfold Obligations.DataAccessFaultsLeaveNoTrace
  intro s rd rs1 rs2 p q k lf sf
  have hl : lf = loadTrap k := by rcases k with _ | _ | _ <;> rfl
  have hs : sf = storeTrap k := by rcases k with _ | _ | _ <;> rfl
  simp only [hl, hs, ← creg_eq_reg8]
  have wrapped := nth_effAddr s.cpu
  exact ⟨fun imm => ⟨fun h => ⟨traps_load (wrapped ..) rfl h, traps_load (wrapped ..) rfl h, traps_store (wrapped ..) rfl h⟩,
      fun h => ⟨traps_load (wrapped ..) rfl h, traps_load (wrapped ..) rfl h, traps_store (wrapped ..) rfl h⟩,
      fun h => ⟨traps_load (wrapped ..) rfl h, traps_load (wrapped ..) rfl h, traps_store (wrapped ..) rfl h⟩,
      fun h => ⟨traps_load (wrapped ..) rfl h, traps_store (wrapped ..) rfl h⟩⟩,
    fun u h => ⟨traps_load (wrapped ..) rfl h, traps_store (wrapped ..) rfl h⟩,
    fun u h => ⟨traps_load (wrapped ..) rfl h, traps_store (wrapped ..) rfl h⟩,
    fun u h => ⟨traps_load (wrapped ..) rfl h, traps_store (wrapped ..) rfl h⟩,
    fun u h => ⟨traps_load (wrapped ..) rfl h, traps_store (wrapped ..) rfl h⟩⟩

end Sys2Proof.Machine
end

section
/-! PROOFS. Branches, jumps, fences, environment calls and CSR accesses (46_, 47_ and 48_, "Conventional meaning of the
handler"; logs 8, 11, 12, 16, 17, 18, 27). -/

namespace Sys2Proof.Machine

open Sys2Proof.Claims

/-! ## Targets -/

/-- An address sum at the active width. -/
theorem wrapAddr_add (x : Xlen) (a b : Word) : wrapAddr x (a + b) = addr x (a.toInt + b.toInt) := by
  rw [wrapAddr_eq, addr_eq, BitVec.ofInt_add, ← low_eq_ofInt, ← low_eq_ofInt, low, BitVec.setWidth_add _ _ (bits_le x)]
  rfl

theorem wrapAddr_relTarget (x : Xlen) (pc0 : Word) {n : Nat} (hn : n ≤ 64) (imm : BitVec n) :
    wrapAddr x (relTarget pc0 (simm imm)) = addr x (pc0.toInt + imm.toInt) := by
  rw [relTarget, wrapAddr_add, toInt_simm hn]

/-- Clearing the `k` low bits. -/
theorem and_not_lowOnes (v : Word) {k : Nat} (hk : k ≤ 64) : v &&& ~~~((1#64 <<< k) - 1#64) = v >>> k <<< k := by
  apply BitVec.eq_of_getLsbD_eq
  intro i hi
  simp only [BitVec.getLsbD_and, BitVec.getLsbD_not, getLsbD_lowOnes hk, BitVec.getLsbD_shiftLeft, BitVec.getLsbD_ushiftRight, hi,
    decide_true, Bool.true_and]
  by_cases h : i < k
  · simp [h]
  · simp [h, Nat.add_sub_of_le (Nat.le_of_not_lt h)]

/-- Clearing the low bits of an address takes its remainder away, as integers: bit 0 of a target, bits 1:0 of a vector. -/
theorem toInt_and_not_lowOnes (v : Word) {k : Nat} (hk : k = 1 ∨ k = 2) :
    (v &&& ~~~((1#64 <<< k) - 1#64)).toInt = v.toInt - v.toInt % 2 ^ k := by
  have hv := v.isLt
  have htoNat : (v >>> k <<< k).toNat = v.toNat / 2 ^ k * 2 ^ k := by
    rw [BitVec.toNat_shiftLeft, BitVec.toNat_ushiftRight, Nat.shiftRight_eq_div_pow, Nat.shiftLeft_eq]
    exact Nat.mod_eq_of_lt (lt_of_le_of_lt (Nat.div_mul_le_self ..) hv)
  rw [and_not_lowOnes v (by omega), BitVec.toInt_eq_toNat_cond, BitVec.toInt_eq_toNat_cond, htoNat]
  rcases hk with rfl | rfl
  · split <;> split <;> omega
  · split <;> split <;> omega

theorem wrapAddr_evenAddr (x : Xlen) (v : Word) : wrapAddr x (evenAddr v) = addr x (v.toInt - v.toInt % 2) := by
  have hmask : (1#64 <<< 1) - 1#64 = 1#64 := by decide
  have h := toInt_and_not_lowOnes v (.inl rfl)
  rw [hmask, pow_one] at h
  rw [wrapAddr_eq_addr, evenAddr, h]

/-- Integers that agree at the active width agree there with bit 0 cleared as well. -/
theorem addr_even_congr {x : Xlen} {i j : Int} (h : i % 2 ^ bits x = j % 2 ^ bits x) :
    addr x (i - i % 2) = addr x (j - j % 2) := by
  apply addr_congr
  cases x <;> simp only [bits] at h ⊢ <;> omega

theorem wrapAddr_regTarget (c : Cpu) (base : BitVec 5) {n : Nat} (hn : n ≤ 32) (imm : BitVec n) :
    wrapAddr c.xlen (regTarget c base (simm imm)) =
      addr c.xlen (sval c.xlen (readX c base) + imm.toInt - (sval c.xlen (readX c base) + imm.toInt) % 2) := by
  rw [regTarget, wrapAddr_evenAddr]
  apply addr_even_congr
  rw [toInt_emod_bits, sval_eq, low, BitVec.setWidth_add _ _ (bits_le _), BitVec.toInt_add, ← toInt_low_simm c.xlen hn]
  exact Int.bmod_emod ..

/-! ## Conditions -/

section
variable {w : Nat} (a b : BitVec w)

theorem condEq_eq : condEq w a b = decide (a.toNat = b.toNat) := by
  apply Bool.eq_iff_iff.mpr
  simp [condEq, BitVec.toNat_inj]

theorem condNe_eq : condNe w a b = decide (a.toNat ≠ b.toNat) := by
  apply Bool.eq_iff_iff.mpr
  simp [condNe, BitVec.toNat_inj]

theorem condGe_eq : condGe w a b = decide (a.toInt ≥ b.toInt) := by
  apply Bool.eq_iff_iff.mpr
  simp [condGe, BitVec.slt]

theorem condGeu_eq : condGeu w a b = decide (a.toNat ≥ b.toNat) := by
  apply Bool.eq_iff_iff.mpr
  simp [condGeu, BitVec.ult]

end

/-! ## Branches and jumps -/

/-- A branch: to its target when its condition holds, else past the instruction. -/
theorem onlyPc_branch {i : Instr} {s : State} {n m : Nat} {cond : Bool} {imm : BitVec m} {P : Prop} [Decidable P]
    (h : exec i s = .next (conclude deliver .branch n s (branchAnswer s.cpu cond s.lat.pc0 (simm imm)))) (hm : m ≤ 64)
    (hc : cond = decide P) : OnlyPc i s (if P then addr s.cpu.xlen (s.lat.pc0.toInt + imm.toInt) else after s n) := by
  by_cases hp : P
  · rw [hc, decide_eq_true hp] at h
    rw [if_pos hp]
    exact onlyPc_of_done h (fun r => readX_writePc ..) (wrapAddr_relTarget _ _ hm imm) (SameRest.rfl.writePc _)
  · rw [hc, decide_eq_false hp] at h
    rw [if_neg hp]
    exact onlyPc_of_done h (fun r => rfl) rfl SameRest.rfl

/-- Settles O40: the two outcomes of a branch, and what each condition says on the low `xlen` bits. -/
theorem branchResults : Obligations.BranchResults := by
  unfold Obligations.BranchResults
  intro s rs1 rs2 p
  simp only [U, S, uval_eq, sval_eq, ← creg_eq_reg8]
  refine ⟨fun imm => ⟨onlyPc_branch rfl (by decide) ?_, onlyPc_branch rfl (by decide) ?_, onlyPc_branch rfl (by decide) ?_,
      onlyPc_branch rfl (by decide) ?_, onlyPc_branch rfl (by decide) ?_, onlyPc_branch rfl (by decide) ?_⟩,
    fun imm => ⟨onlyPc_branch rfl (by decide) ?_, onlyPc_branch rfl (by decide) ?_⟩⟩
  · rw [compareAt_eq, condEq_eq]
  · rw [compareAt_eq, condNe_eq]
  · rw [compareAt_eq, condLt_eq]
  · rw [compareAt_eq, condGe_eq]
  · rw [compareAt_eq, condLtu_eq]
  · rw [compareAt_eq, condGeu_eq]
  · rw [compareAt_eq, condEq_eq]
    simp [low]
  · rw [compareAt_eq, condNe_eq]
    simp [low]


/-- A jump with a link: the link written, then `pc`. -/
theorem writes_jump {i : Instr} {s : State} {n : Nat} {rd : BitVec 5} {target t : Word}
    (h : exec i s = .next (conclude deliver .jump n s (jumpAnswer s.cpu rd (widthWord n) s.lat.pc0 target)))
    (ht : wrapAddr s.cpu.xlen target = t) {l : Int} (hl : (widthWord n).toInt = l) :
    Writes i s rd (reg s.cpu.xlen (s.lat.pc0.toInt + l)) t := by
  rw [← hl, ← canon_add]
  refine writes_of_done h (fun r => ?_) ?_ ((SameRest.rfl.writeX rd _).writePc target)
  · rw [readX_writePc, readX_writeX_eq]
  · rw [writePc_pc, writeX_xlen]
    exact ht

/-- Settles O41: the target of a register jump is computed from the registers before the link is written. -/
theorem jumpResults : Obligations.JumpResults := by
  unfold Obligations.JumpResults
  intro s rd rs1
  have reg0 (r : BitVec 5) : wrapAddr s.cpu.xlen (regTarget s.cpu r 0) = addr s.cpu.xlen (S s r - S s r % 2) := by
    have h := wrapAddr_regTarget s.cpu r (n := 1) (by decide) 0#1
    rwa [show (0#1).toInt = 0 from rfl, Int.add_zero] at h
  have rel {n : Nat} (hn : n ≤ 64) := wrapAddr_relTarget s.cpu.xlen s.lat.pc0 (n := n) hn
  exact ⟨fun imm => writes_jump rfl (rel (by decide) imm) (by decide),
    fun imm => writes_jump rfl (wrapAddr_regTarget _ _ (by decide) _) (by decide),
    fun imm => onlyPc_of_done rfl (fun r => readX_writePc ..) (rel (by decide) imm) (SameRest.rfl.writePc _),
    fun imm => writes_jump rfl (rel (by decide) imm) (by decide),
    onlyPc_of_done rfl (fun r => readX_writePc ..) (reg0 rs1) (SameRest.rfl.writePc _), writes_jump rfl (reg0 rs1) (by decide)⟩

/-! ## Fences and environment calls -/

/-- Settles O42: their handlers change nothing. -/
theorem fencesWaitsAndNopsOnlyAdvance : Obligations.FencesWaitsAndNopsOnlyAdvance := by
  unfold Obligations.FencesWaitsAndNopsOnlyAdvance
  intro s rs1 rs2
  have nothing {i : Instr} {n : Nat} (h : exec i s = .next (conclude deliver .seq n s (.done false s.cpu))) :
      OnlyPc i s (after s n) := onlyPc_of_done h (fun r => rfl) rfl SameRest.rfl
  refine ⟨nothing rfl, nothing rfl, nothing rfl, ?_, fun h => nothing ?_⟩
  · exact ⟨_, rfl, rfl, rfl, fun r => rfl, rfl, fun a => rfl, fun m => rfl, rfl, rfl, rfl, rfl, rfl, rfl, rfl, rfl, rfl, rfl, rfl⟩
  · rw [← if_pos (c := s.cpu.priv = .machine ∨ (s.cpu.priv = .supervisor ∧ bitAt (csrGet s.cpu csrMstatus) tvmBit = false)) h
      (t := Answer.done false s.cpu) (e := illegalAnswer s.cpu (.sfenceVma rs1 rs2))]
    rfl

/-- Settles O43: each raises on an untouched CPU state. -/
theorem environmentCallsAndMarkersTrap : Obligations.EnvironmentCallsAndMarkersTrap := by
  unfold Obligations.EnvironmentCallsAndMarkersTrap
  intro s
  have hecall : Traps .ecall s (envCall s.cpu.priv) 0 := traps_of_raise rfl
  have marker (i : Instr) (h : exec i s = .next (takeTrap .illegalInstruction (s.lat.opcode.setWidth 64) s)) :
      Traps i s .illegalInstruction (s.lat.opcode.setWidth 64) :=
    ⟨_, h, rfl, rfl, rfl, deliver_xlen .., deliver_unmapped .., deliver_align .., rfl, rfl, rfl, rfl, rfl, rfl, rfl⟩
  refine ⟨fun h => ?_, fun h => ?_, fun h => ?_, traps_of_raise rfl, traps_of_raise rfl, ?_⟩
  · rwa [h] at hecall
  · rwa [h] at hecall
  · rwa [h] at hecall
  · rintro i (rfl | rfl | rfl | rfl | rfl | rfl | rfl)
    · exact marker _ rfl
    · exact marker _ rfl
    · exact marker _ rfl
    · exact marker _ rfl
    · exact marker _ rfl
    · exact marker _ rfl
    · exact marker _ rfl

/-! ## CSR accesses -/

theorem csrAllowed_iff (s : State) (n : BitVec 12) (write : Bool) : csrAllowed s.cpu n write = true ↔ Permitted s n write := by
  have hn := n.isLt
  have hlevel : privLevel s.cpu.priv = level s.cpu.priv := by cases s.cpu.priv <;> rfl
  have hlow : (n >>> 8 &&& 3).toNat = n.toNat / 256 % 4 := by
    rw [BitVec.toNat_and, BitVec.toNat_ushiftRight, Nat.shiftRight_eq_div_pow]
    exact Nat.and_two_pow_sub_one_eq_mod _ 2
  have hhigh : n >>> 10 = 3#12 ↔ n.toNat / 1024 = 3 := by
    rw [← BitVec.toNat_inj, BitVec.toNat_ushiftRight, Nat.shiftRight_eq_div_pow]
    rfl
  rw [csrAllowed, Permitted, hlow, hlevel]
  cases write <;> simp [hhigh]

theorem csrRead_eq_seen (s : State) (n : BitVec 12) : csrRead s.cpu n = seen s n := rfl

theorem wrapAddr_eq_uval (x : Xlen) (v : Word) : wrapAddr x v = BitVec.ofNat 64 (uval x v) := by
  rw [wrapAddr_eq, uval_eq, ← BitVec.ofNat_toNat]

theorem csrGet_csrWrite (s : State) (h : s.csrWf = true) (n m : BitVec 12) (v : Word) :
    csrGet (csrWrite s.cpu n v) m = written s n v m := by
  have hw : Store.wf s.cpu.csr = true := by
    simp only [State.csrWf, Bool.and_eq_true] at h
    exact h.1
  simp only [csrWrite, written, wrapAddr_eq_uval]
  by_cases hn : n = 0x100#12
  · rw [if_pos (show n = csrSstatus from hn), if_pos hn]
    exact csrGet_csrPut s.cpu _ m _ hw
  · rw [if_neg (show n ≠ csrSstatus from hn), if_neg hn]
    exact csrGet_csrPut s.cpu _ m _ hw

/-- A CSR instruction that is permitted. -/
theorem csrMoves_of_permitted {i j : Instr} {s : State} {rd : BitVec 5} {n : BitVec 12} {write : Bool} {f : Word → Word}
    (hexec : exec i s = .next (conclude deliver .seq 4 s (csrAnswer s.cpu j rd n write f))) (hwf : s.csrWf = true)
    (hp : Permitted s n write) : CsrMoves i s rd n write (f (seen s n)) := by
  rw [csrAnswer, if_pos ((csrAllowed_iff s n write).mpr hp), csrRead_eq_seen, conclude_done] at hexec
  cases write with
  | false =>
    refine ⟨_, hexec, rfl, rfl, fun r => ?_, rfl, fun m => ?_, fun a => byteAt_writeX .., writeX_priv .., writeX_xlen ..,
      writeX_unmapped .., writeX_align .., rfl, rfl, rfl, rfl, rfl, rfl, rfl⟩
    · rw [← canon_eq_reg]
      exact readX_writeX_eq ..
    · simp [csrGet]
  | true =>
    refine ⟨_, hexec, rfl, rfl, fun r => ?_, rfl, fun m => ?_, fun a => ?_, ?_, ?_, ?_, ?_, rfl, rfl, rfl, rfl, rfl, rfl, rfl⟩
    · rw [← canon_eq_reg]
      refine (readX_writeX_eq (csrWrite s.cpu n (f (seen s n))) rd r _).trans ?_
      rw [csrWrite_xlen, readX_congr _ _ (csrWrite_x ..)]
    · rw [if_pos rfl, ← csrGet_csrWrite s hwf]
      simp [csrGet]
    · simp [byteAt]
    · simp
    · simp
    · simp
    · simp

/-- Settles O44: the old value read, the new one written where the instruction writes. -/
theorem csrAccessResults : Obligations.CsrAccessResults := by
  unfold Obligations.CsrAccessResults
  intro s rd rs1 u n hwf
  exact ⟨fun h => ⟨csrMoves_of_permitted (f := fun _ => readX s.cpu rs1) rfl hwf h,
      csrMoves_of_permitted (f := fun _ => uimm u) rfl hwf h⟩,
    fun h => ⟨csrMoves_of_permitted (f := fun t => t ||| readX s.cpu rs1) rfl hwf h,
      csrMoves_of_permitted (f := fun t => t &&& ~~~readX s.cpu rs1) rfl hwf h⟩,
    fun h => ⟨csrMoves_of_permitted (f := fun t => t ||| uimm u) rfl hwf h,
      csrMoves_of_permitted (f := fun t => t &&& ~~~uimm u) rfl hwf h⟩⟩

/-- Settles O45: each tests its permission before anything else. -/
theorem privilegedFormsTrapWhenNotPermitted : Obligations.PrivilegedFormsTrapWhenNotPermitted := by
  unfold Obligations.PrivilegedFormsTrapWhenNotPermitted
  intro s rd rs1 rs2 n
  have csr {i : Instr} {write : Bool} {f : Word → Word} (hp : ¬ Permitted s n write)
      (h : exec i s = .next (conclude deliver .seq 4 s (csrAnswer s.cpu i rd n write f))) :
      Traps i s .illegalInstruction ((encode i).setWidth 64) := by
    rw [csrAnswer, if_neg (mt (csrAllowed_iff s n write).mp hp)] at h
    exact traps_of_raise h
  have guarded {i : Instr} {P : Prop} [Decidable P] {k : PcClass} {a : Answer} (hp : ¬ P)
      (h : exec i s = .next (conclude deliver k 4 s (if P then a else illegalAnswer s.cpu i))) :
      Traps i s .illegalInstruction ((encode i).setWidth 64) := by
    rw [if_neg hp] at h
    exact traps_of_raise h
  have notSuper {b : Bool} (h : s.cpu.priv = .user ∨ (s.cpu.priv = .supervisor ∧ b = true)) :
      ¬ (s.cpu.priv = .machine ∨ (s.cpu.priv = .supervisor ∧ b = false)) := by
    rcases h with h | ⟨h, rfl⟩ <;> simp [h]
  exact ⟨fun hp => ⟨csr hp rfl, csr hp rfl⟩, fun hp => ⟨csr hp rfl, csr hp rfl, csr hp rfl, csr hp rfl⟩,
    fun hp => guarded hp rfl, fun hp => guarded (notSuper hp) rfl, fun hp => guarded (notSuper hp) rfl⟩

end Sys2Proof.Machine
end

section
/-! PROOFS. Trap entry and trap return: the status word bit by bit, the saved registers, the vector (60_exceptions.md R208, R210;
logs 13, 14, 16, 32). -/

namespace Sys2Proof.Machine

open Sys2Proof.Claims

/-! ## Bits of a status word -/

theorem getLsbD_putBit (v : Word) {i : Nat} (hi : i < 64) (b : Bool) (j : Nat) :
    (putBit v i b).getLsbD j = if j = i then b else v.getLsbD j := by
  have hone : (1#64 <<< i).getLsbD j = decide (j = i) := by
    rw [← BitVec.twoPow_eq, BitVec.getLsbD_twoPow, decide_eq_true hi, Bool.true_and]
    exact decide_eq_decide.mpr eq_comm
  cases b
  · by_cases h : j = i
    · simp [putBit, h]
    · simp only [putBit, Bool.false_eq_true, if_false, BitVec.getLsbD_and, BitVec.getLsbD_not, hone, h, decide_false, Bool.not_false,
        Bool.and_true]
      by_cases hj : j < 64
      · simp [hj]
      · simp [hj, BitVec.getLsbD_of_ge v j (by omega)]
  · by_cases h : j = i
    · simp [putBit, h, hi]
    · simp [putBit, hone, h]

theorem getLsbD_putField2 (v : Word) (i : Nat) (f : BitVec 2) {j : Nat} (hj : j < 64) :
    (putField2 v i f).getLsbD j =
      if j = i then f.getLsbD 0 else if j = i + 1 then f.getLsbD 1 else v.getLsbD j := by
  have hmask : (3#64).getLsbD (j - i) = decide (j - i < 2) := getLsbD_lowOnes (show 2 ≤ 64 by decide) (j - i)
  simp only [putField2, BitVec.getLsbD_or, BitVec.getLsbD_and, BitVec.getLsbD_not, BitVec.getLsbD_shiftLeft, hmask,
    BitVec.getLsbD_setWidth, hj, decide_true, Bool.true_and]
  by_cases h0 : j = i
  · simp [h0]
  · by_cases h1 : j = i + 1
    · simp [h1]
    · by_cases hlt : j < i
      · simp [h0, h1, hlt]
      · simp [h0, h1, hlt, show ¬ j - i < 2 by omega, BitVec.getLsbD_of_ge f (j - i) (by omega)]

/-- The mode that MPP names; two, which names none, is U (log 32). -/
theorem privOfBits_mppOf (v : Word) : privOfBits (mppOf v) =
    if v.getLsbD 12 = true ∧ v.getLsbD 11 = true then .machine
    else if v.getLsbD 12 = false ∧ v.getLsbD 11 = true then .supervisor else .user := by
  have h0 : (mppOf v).getLsbD 0 = v.getLsbD 11 := by simp [mppOf, mppBit]
  have h1 : (mppOf v).getLsbD 1 = v.getLsbD 12 := by simp [mppOf, mppBit]
  rw [← h0, ← h1]
  generalize mppOf v = f
  revert f
  decide

theorem getLsbD_clearMprv (v : Word) (p : Priv) (j : Nat) :
    (clearMprv v p).getLsbD j = if j = 17 ∧ p ≠ .machine then false else v.getLsbD j := by
  unfold clearMprv
  by_cases hp : p = .machine
  · simp [hp]
  · rw [if_neg hp, getLsbD_putBit v (by decide)]
    by_cases hj : j = 17 <;> simp [hp, hj, mprvBit]

theorem getLsbD_statusMret (v : Word) {j : Nat} (hj : j < 64) : (statusMret v).getLsbD j =
    if j = 3 then v.getLsbD 7 else if j = 7 then true else if j = 11 ∨ j = 12 then false
    else if j = 17 ∧ privOfBits (mppOf v) ≠ .machine then false else v.getLsbD j := by
  rw [statusMret, getLsbD_clearMprv, getLsbD_putField2 _ _ _ hj, getLsbD_putBit _ (by decide),
    getLsbD_putBit _ (by decide)]
  simp only [mppBit, mpieBit, mieBit, bitAt]
  grind

theorem getLsbD_statusSret (v : Word) {j : Nat} : (statusSret v).getLsbD j =
    if j = 1 then v.getLsbD 5 else if j = 5 then true else if j = 8 ∨ j = 17 then false else v.getLsbD j := by
  have hp : sretPriv v ≠ .machine := by unfold sretPriv; split <;> decide
  rw [statusSret, getLsbD_clearMprv, getLsbD_putBit _ (by decide), getLsbD_putBit _ (by decide), getLsbD_putBit _ (by decide)]
  simp only [sppBit, spieBit, sieBit, bitAt]
  grind

theorem getLsbD_statusEnterM (v : Word) (p : Priv) {j : Nat} (hj : j < 64) : (statusEnterM v p).getLsbD j =
    if j = 7 then v.getLsbD 3 else if j = 3 then false
    else if j = 11 then decide (p ≠ .user) else if j = 12 then decide (p = .machine) else v.getLsbD j := by
  have h0 : (privBits p).getLsbD 0 = decide (p ≠ .user) := by cases p <;> rfl
  have h1 : (privBits p).getLsbD 1 = decide (p = .machine) := by cases p <;> rfl
  rw [statusEnterM, getLsbD_putField2 _ _ _ hj, getLsbD_putBit _ (by decide), getLsbD_putBit _ (by decide), h0, h1]
  simp only [mppBit, mpieBit, mieBit, bitAt]
  grind

theorem getLsbD_statusEnterS (v : Word) (p : Priv) (j : Nat) : (statusEnterS v p).getLsbD j =
    if j = 5 then v.getLsbD 1 else if j = 1 then false else if j = 8 then decide (p = .supervisor) else v.getLsbD j := by
  have hp : (p == .supervisor) = decide (p = .supervisor) := by cases p <;> rfl
  rw [statusEnterS, getLsbD_putBit _ (by decide), getLsbD_putBit _ (by decide), getLsbD_putBit _ (by decide), hp]
  simp only [sppBit, spieBit, sieBit, bitAt]
  grind

/-! ## Returns -/

theorem csrGet_returnM (c : Cpu) (h : Store.wf c.csr = true) (m : BitVec 12) :
    csrGet (returnM c) m = if m = csrMstatus then statusMret (csrGet c csrMstatus) else csrGet c m :=
  csrGet_csrPut c csrMstatus m _ h

theorem csrGet_returnS (c : Cpu) (h : Store.wf c.csr = true) (m : BitVec 12) :
    csrGet (returnS c) m = if m = csrMstatus then statusSret (csrGet c csrMstatus) else csrGet c m :=
  csrGet_csrPut c csrMstatus m _ h

theorem returnM_pc (c : Cpu) : (returnM c).pc = wrapAddr c.xlen (evenAddr (csrGet c csrMepc)) := rfl

theorem returnS_pc (c : Cpu) : (returnS c).pc = wrapAddr c.xlen (evenAddr (csrGet c csrSepc)) := rfl

theorem storeWf_of_csrWf {s : State} (h : s.csrWf = true) : Store.wf s.cpu.csr = true := by
  simp only [State.csrWf, Bool.and_eq_true] at h
  exact h.1

/-- Settles O46: the status word that MRET leaves, bit by bit. -/
theorem mretRestoresPcModeAndInterruptEnable : Obligations.MretRestoresPcModeAndInterruptEnable := by
  unfold Obligations.MretRestoresPcModeAndInterruptEnable
  intro s hwf hpriv old mode
  have hw := storeWf_of_csrWf hwf
  have hmode : privOfBits (mppOf old) = mode := privOfBits_mppOf old
  have hexec : exec .mret s = .next (conclude deliver .trapBoundary 4 s (.done false (returnM s.cpu))) := by
    rw [← if_pos hpriv (t := Answer.done false (returnM s.cpu)) (e := illegalAnswer s.cpu .mret)]
    rfl
  rw [conclude_done] at hexec
  refine ⟨_, hexec, rfl, hmode, wrapAddr_evenAddr .., fun i hi => ?_, fun m hm => ?_, fun r => rfl, fun a => rfl, rfl, rfl, rfl, rfl, rfl,
    rfl, rfl, rfl, rfl, rfl⟩
  · rw [← hmode, ← getLsbD_statusMret old hi]
    exact congrArg (BitVec.getLsbD · i) (csrGet_returnM s.cpu hw csrMstatus)
  · exact (csrGet_returnM s.cpu hw m).trans (if_neg hm)

/-- Settles O47: the status word that SRET leaves, bit by bit. -/
theorem sretRestoresPcModeAndInterruptEnable : Obligations.SretRestoresPcModeAndInterruptEnable := by
  unfold Obligations.SretRestoresPcModeAndInterruptEnable
  intro s hwf old hp
  have hw := storeWf_of_csrWf hwf
  have hexec : exec .sret s = .next (conclude deliver .trapBoundary 4 s (.done false (returnS s.cpu))) := by
    rw [← if_pos (c := s.cpu.priv = .machine ∨ (s.cpu.priv = .supervisor ∧ bitAt (csrGet s.cpu csrMstatus) tsrBit = false)) hp
      (t := Answer.done false (returnS s.cpu)) (e := illegalAnswer s.cpu .sret)]
    rfl
  rw [conclude_done] at hexec
  refine ⟨_, hexec, rfl, rfl, wrapAddr_evenAddr .., fun i hi => ?_, fun m hm => ?_, fun r => rfl, fun a => rfl, rfl, rfl, rfl, rfl, rfl,
    rfl, rfl, rfl, rfl, rfl⟩
  · rw [← getLsbD_statusSret old]
    exact congrArg (BitVec.getLsbD · i) (csrGet_returnS s.cpu hw csrMstatus)
  · exact (csrGet_returnS s.cpu hw m).trans (if_neg hm)

/-! ## Entries -/

/-- The CSR file after an entry: four words written, the status word last. -/
theorem csrGet_enterM (c : Cpu) (n : Nat) (v : Word) (h : Store.wf c.csr = true) (m : BitVec 12) :
    csrGet (enterM c n v) m =
      if m = csrMstatus then statusEnterM (csrGet c csrMstatus) c.priv
      else if m = csrMtval then v else if m = csrMcause then BitVec.ofNat 64 n else if m = csrMepc then c.pc else csrGet c m := by
  have h1 := csrPut_wf c csrMepc c.pc h
  have h2 := csrPut_wf _ csrMcause (BitVec.ofNat 64 n) h1
  have h3 := csrPut_wf _ csrMtval v h2
  rw [← csrGet_csrPut c csrMepc m c.pc h, ← csrGet_csrPut _ csrMcause m _ h1, ← csrGet_csrPut _ csrMtval m _ h2,
    ← csrGet_csrPut _ csrMstatus m _ h3]
  rfl

theorem csrGet_enterS (c : Cpu) (n : Nat) (v : Word) (h : Store.wf c.csr = true) (m : BitVec 12) :
    csrGet (enterS c n v) m =
      if m = csrMstatus then statusEnterS (csrGet c csrMstatus) c.priv
      else if m = csrStval then v else if m = csrScause then BitVec.ofNat 64 n else if m = csrSepc then c.pc else csrGet c m := by
  have h1 := csrPut_wf c csrSepc c.pc h
  have h2 := csrPut_wf _ csrScause (BitVec.ofNat 64 n) h1
  have h3 := csrPut_wf _ csrStval v h2
  rw [← csrGet_csrPut c csrSepc m c.pc h, ← csrGet_csrPut _ csrScause m _ h1, ← csrGet_csrPut _ csrStval m _ h2,
    ← csrGet_csrPut _ csrMstatus m _ h3]
  rfl

theorem vectorPc_eq (c : Cpu) (v : Word) : vectorPc c v = if v = 0#64 then c.pc else addr c.xlen (v.toInt - v.toInt % 4) := by
  have hmask : (1#64 <<< 2) - 1#64 = 3#64 := by decide
  have h := toInt_and_not_lowOnes v (.inr rfl)
  rw [hmask, show (2 : Int) ^ 2 = 4 by decide] at h
  rw [vectorPc, wrapAddr_eq_addr, h]

theorem deliverWith_of_not_delegated {code : TrapKind → Nat} {k : TrapKind} {c : Cpu} (h : delegated c (code k) = false) (v : Word) :
    deliverWith code k v c = enterM c (code k) v := by
  rw [deliverWith, h]
  rfl

/-- Settles O48: the four words that an entry into M writes, and the vector. -/
theorem trapEntryIntoMachineMode : Obligations.TrapEntryIntoMachineMode := by
  unfold Obligations.TrapEntryIntoMachineMode
  intro code k v c hw hnot
  have hdel : delegated c (code k) = false := by
    rcases hnot with h | h
    · simp [delegated, h]
    · simp only [delegated, bitAt, csrMedeleg, h, Bool.and_false]
  simp only [deliverWith_of_not_delegated hdel]
  have hget := csrGet_enterM c (code k) v hw
  refine ⟨rfl, hget _, hget _, hget _, vectorPc_eq c _, fun i hi => ?_, fun m h0 h1 h2 h3 => ?_, rfl, rfl, rfl, rfl, rfl⟩
  · rw [← getLsbD_statusEnterM _ _ hi]
    exact congrArg (BitVec.getLsbD · i) (hget csrMstatus)
  · exact (hget m).trans ((if_neg h0).trans ((if_neg h3).trans ((if_neg h2).trans (if_neg h1))))

/-- Settles O49: the four words that an entry into S writes, and the vector. -/
theorem delegatedTrapEntryIntoSupervisorMode : Obligations.DelegatedTrapEntryIntoSupervisorMode := by
  unfold Obligations.DelegatedTrapEntryIntoSupervisorMode
  intro code k v c hw hpriv hbit
  have hdel : delegated c (code k) = true := by
    simp only [delegated, bitAt, csrMedeleg, hbit, Bool.and_true, bne_iff_ne]
    exact hpriv
  simp only [deliverWith, hdel, if_true]
  have hget := csrGet_enterS c (code k) v hw
  refine ⟨rfl, hget _, hget _, hget _, vectorPc_eq c _, fun i hi => ?_, fun m h0 h1 h2 h3 => ?_, rfl, rfl, rfl, rfl, rfl⟩
  · rw [← getLsbD_statusEnterS]
    exact congrArg (BitVec.getLsbD · i) (hget csrMstatus)
  · exact (hget m).trans ((if_neg h0).trans ((if_neg h3).trans ((if_neg h2).trans (if_neg h1))))

/-! ## Entry, then return -/

theorem evenAddr_of_even {a : Word} (h : isOdd a = false) : evenAddr a = a := by
  apply BitVec.eq_of_getLsbD_eq
  intro i hi
  cases i with
  | zero => exact (isOdd_evenAddr a).trans h.symm
  | succ i =>
    simp only [evenAddr, BitVec.getLsbD_and, BitVec.getLsbD_not, BitVec.getLsbD_one, hi]
    simp

theorem wrapAddr_of_fits {x : Xlen} {a : Word} (h : x = .w64 ∨ a.toNat < 2 ^ 32) : wrapAddr x a = a := by
  apply BitVec.eq_of_toNat_eq
  have ha := a.isLt
  rw [toNat_wrapAddr]
  apply Nat.mod_eq_of_lt
  cases x with
  | w32 => exact h.resolve_left (by decide)
  | w64 => exact ha

/-- MPP holds the mode that the entry left. -/
theorem privOfBits_mppOf_statusEnterM (v : Word) (p : Priv) : privOfBits (mppOf (statusEnterM v p)) = p := by
  rw [privOfBits_mppOf, getLsbD_statusEnterM v p (by decide), getLsbD_statusEnterM v p (by decide)]
  cases p <;> rfl

/-- Settles O50: `mepc`, MPP and MPIE keep what the return needs. -/
theorem mretUndoesMachineTrapEntry : Obligations.MretUndoesMachineTrapEntry := by
  unfold Obligations.MretUndoesMachineTrapEntry
  intro code k v c hw hdel heven hfits
  simp only [deliverWith_of_not_delegated hdel]
  have hget := csrGet_enterM c (code k) v hw
  have hw' : Store.wf (enterM c (code k) v).csr = true :=
    csrPut_wf _ _ _ (csrPut_wf _ _ _ (csrPut_wf _ _ _ (csrPut_wf _ _ _ hw)))
  have hstatus : csrGet (enterM c (code k) v) csrMstatus = statusEnterM (csrGet c csrMstatus) c.priv := hget csrMstatus
  have hmepc : csrGet (enterM c (code k) v) csrMepc = c.pc := hget csrMepc
  refine ⟨?_, ?_, ?_, rfl, rfl⟩
  · rw [returnM_pc, hmepc, evenAddr_of_even heven, enterM_xlen, wrapAddr_of_fits hfits]
  · rw [returnM_priv, hstatus, privOfBits_mppOf_statusEnterM]
  · have hret : csrGet (returnM (enterM c (code k) v)) csrMstatus = statusMret (statusEnterM (csrGet c csrMstatus) c.priv) := by
      rw [csrGet_returnM _ hw', if_pos rfl, hstatus]
    have hbit : (statusMret (statusEnterM (csrGet c csrMstatus) c.priv)).getLsbD 3 = (csrGet c csrMstatus).getLsbD 3 := by
      rw [getLsbD_statusMret _ (by decide), if_pos rfl, getLsbD_statusEnterM _ _ (by decide), if_pos rfl]
    exact (congrArg (BitVec.getLsbD · 3) hret).trans hbit

end Sys2Proof.Machine
end

section
/-! PROOFS. Every instruction at once: its meaning is its reference handler on its operands, and what a handler's answer can be. -/

namespace Sys2Proof.Machine

open Sys2Proof.Claims

/-! ## Operands as values -/

theorem arg_uval {n m : Nat} (h : m ≤ 64) (v : BitVec n) : (Instr.uval v).setWidth m = v.setWidth m :=
  BitVec.setWidth_setWidth_of_le v h

theorem arg_sval {n : Nat} (h : n ≤ 64) (v : BitVec n) : (Instr.sval v).setWidth n = v := by
  apply BitVec.eq_of_getLsbD_eq
  intro i hi
  simp only [Instr.sval, BitVec.getLsbD_setWidth, BitVec.getLsbD_signExtend, hi, Nat.lt_of_lt_of_le hi h, decide_true, Bool.true_and,
    if_true]

/-- An instruction is the one that its own operand values make. -/
theorem ofApplication_args (i : Instr) : Instr.ofApplication i.decl.mnemonic i.decl.variant i.args = some i := by
  cases i
  case illegalCAddi4spnZ | illegalCAddiwRd0 | illegalCAddi16spZ | illegalCLuiZ | illegalCLwspRd0 | illegalCLdspRd0 | illegalCJrRs1z
      | cNop | fence | fenceI | ecall | ebreak | cEbreak | mret | sret | wfi =>
    rfl
  all_goals
    conv => lhs; whnf
    simp only [Instr.args, Instr.arg, List.getD_cons_zero, List.getD_cons_succ, arg_uval, arg_sval, Nat.reduceLeDiff, BitVec.setWidth_eq]
  case slli32 | srli32 | srai32 | slli64 | srli64 | srai64 | cSlli32 | cSrli32 | cSrai32 | cSlli64 | cSrli64 | cSrai64 => rfl

/-- The operands of an instruction and what its handler asks for besides (44_dispatch_loop.md R152). -/
def handlerArgs (i : Instr) (pc0 : Word) : List Word :=
  i.args ++ (if (refBinding i.decl.mnemonic).needsWidth then [widthWord i.decl.width] else []) ++
    (if (refBinding i.decl.mnemonic).needsPc then [pc0] else [])

/-- The handlers of the shifts read six bits of an amount that has five under RV32. -/
theorem uimm_arg_six (v : BitVec 5) : uimm ((Instr.uval v).setWidth 5) = uimm ((Instr.uval v).setWidth 6) := by
  apply BitVec.eq_of_toNat_eq
  have := v.isLt
  simp [uimm, Instr.uval]

theorem conclude_shift_six (f : (w : Nat) → BitVec w → BitVec w → BitVec w) (n : Nat) (s : State) (rd rs1 v : BitVec 5) :
    Host.Outcome.next (conclude deliver .seq n s (aluAnswer f s.cpu rd rs1 (uimm ((Instr.uval v).setWidth 5)))) =
      (.next (conclude deliver .seq n s (aluAnswer f s.cpu rd rs1 (uimm ((Instr.uval v).setWidth 6)))) : Result) := by
  rw [uimm_arg_six]

/-- A regular instruction means its reference handler on its operands, then UPDATE-PC or the trap. -/
theorem exec_eq_refHandler (i : Instr) (s : State) (hk : i.decl.kind = .regular) :
    exec i s = .next (conclude deliver i.decl.pcclass i.decl.width s
      (refHandler i.decl.mnemonic (handlerArgs i s.lat.pc0) s.cpu)) := by
  suffices h : ∀ j, Instr.ofApplication i.decl.mnemonic i.decl.variant i.args = some j → exec j s =
      .next (conclude deliver i.decl.pcclass i.decl.width s (refHandler i.decl.mnemonic (handlerArgs i s.lat.pc0) s.cpu)) from
    h i (ofApplication_args i)
  cases i
  case illegalCAddi4spnZ | illegalCAddiwRd0 | illegalCAddi16spZ | illegalCLuiZ | illegalCLwspRd0 | illegalCLdspRd0 | illegalCJrRs1z
      | cNop =>
    cases hk
  all_goals
    intro j hj
    obtain rfl := Option.some.inj hj
  case slli32 | srli32 | srai32 | cSlli32 | cSrli32 | cSrai32 => exact conclude_shift_six ..
  all_goals rfl

/-! ## What a handler's answer can be -/

/-- The mnemonics whose handlers write `pc`, the trap returns apart. -/
def controlMnemonics : List Mnemonic :=
  [.jal, .jalr, .beq, .bne, .blt, .bge, .bltu, .bgeu, .cJal, .cJ, .cBeqz, .cBnez, .cJr, .cJalr]

/-- Everything that the reference handler of a mnemonic can answer: a register written, nothing written, bytes stored, `pc` written,
a CSR that the mode may write written, a trap return, or a raise that leaves the CPU state untouched. -/
inductive Effect (m : Mnemonic) (c : Cpu) : Answer → Prop
  | write (rd : BitVec 5) (v : Word) : Effect m c (.done false (writeX c rd v))
  | nothing : Effect m c (.done false c)
  | store (n : Nat) (a v : Word) : Effect m c (.done false (storeBytes c.xlen n a v c))
  | goto (hm : m ∈ controlMnemonics) (taken : Bool) (t : Word) : Effect m c (.done taken (writePc c t))
  | jump (hm : m ∈ controlMnemonics) (rd : BitVec 5) (v t : Word) : Effect m c (.done false (writePc (writeX c rd v) t))
  | csr (n : BitVec 12) (h : csrAllowed c n true = true) (u : Word) (rd : BitVec 5) (v : Word) :
    Effect m c (.done false (writeX (csrWrite c n u) rd v))
  | mret (hm : m = .mret) (h : c.priv = .machine) : Effect m c (.done false (returnM c))
  | sret (hm : m = .sret) (h : c.priv ≠ .user) : Effect m c (.done false (returnS c))
  | raise (k : TrapKind) (v : Word) : Effect m c (.raise k v c)

section
variable {m : Mnemonic} (c : Cpu)

theorem effect_loadAnswer (rd : BitVec 5) (a : Word) (n : Nat) (e : Word → Word) : Effect m c (loadAnswer c rd a n e) := by
  obtain ⟨-, h⟩ | ⟨k, -, h⟩ := loadAnswer_cases c rd a n e
  · exact h ▸ .write ..
  · exact h ▸ .raise ..

theorem effect_storeAnswer (a : Word) (n : Nat) (v : Word) : Effect m c (storeAnswer c a n v) := by
  obtain ⟨-, h⟩ | ⟨k, -, h⟩ := storeAnswer_cases c a n v
  · exact h ▸ .store ..
  · exact h ▸ .raise ..

theorem effect_branchAnswer (hm : m ∈ controlMnemonics) (holds : Bool) (pc0 off : Word) :
    Effect m c (branchAnswer c holds pc0 off) := by
  cases holds
  · exact .nothing
  · exact .goto hm ..

theorem effect_csrAnswer (i : Instr) (rd : BitVec 5) (n : BitVec 12) (write : Bool) (f : Word → Word) :
    Effect m c (csrAnswer c i rd n write f) := by
  obtain ⟨hp, h⟩ | ⟨-, h⟩ := csrAnswer_cases c i rd n write f
  · rw [h]
    cases write
    · exact .write ..
    · exact .csr n hp ..
  · exact h ▸ .raise ..

theorem effect_handleMret : Effect .mret c (handleMret c) := by
  unfold handleMret
  split
  · exact .mret rfl ‹_›
  · exact .raise ..

theorem effect_handleSret : Effect .sret c (handleSret c) := by
  unfold handleSret
  split
  case isTrue h =>
    refine .sret rfl ?_
    rcases h with h | ⟨h, -⟩
    · simp [h]
    · simp [h]
  case isFalse => exact .raise ..

theorem effect_handleSfenceVma (rs1 rs2 : BitVec 5) : Effect m c (handleSfenceVma rs1 rs2 c) := by
  unfold handleSfenceVma
  split
  · exact .nothing
  · exact .raise ..

end

/-- Every reference handler, whatever its arguments. -/
theorem refHandler_effect (m : Mnemonic) (a : List Word) (c : Cpu) : Effect m c (refHandler m a c) := by
  cases m
  case lui | auipc | cLi | cLui | cMv | addi | slti | sltiu | xori | ori | andi | slli | srli | srai | add | sub | sll | slt |
      sltu | xor | srl | sra | or | and | mul | mulh | mulhsu | mulhu | div | divu | rem | remu | cAddi4spn | cAddi |
      cAddi16sp | cSrli | cSrai | cAndi | cSub | cXor | cOr | cAnd | cSlli | cAdd | addiw | slliw | srliw | sraiw | addw |
      subw | sllw | srlw | sraw | mulw | cAddiw | cSubw | cAddw | divw | divuw | remw | remuw => exact .write ..
  case jal | jalr | cJal | cJalr => exact .jump (by decide) ..
  case beq | bne | blt | bge | bltu | bgeu | cBeqz | cBnez => exact effect_branchAnswer _ (by decide) ..
  case lb | lh | lw | lbu | lhu | lwu | ld | cLw | cLd | cLwsp | cLdsp => exact effect_loadAnswer ..
  case sb | sh | sw | sd | cSw | cSd | cSwsp | cSdsp => exact effect_storeAnswer ..
  case fence | fenceI | wfi | illegalCAddi4spnZ | cNop | illegalCAddiwRd0 | illegalCAddi16spZ | illegalCLuiZ |
      illegalCLwspRd0 | illegalCLdspRd0 | illegalCJrRs1z | other => exact .nothing
  case ecall | ebreak | cEbreak => exact .raise ..
  case csrrw | csrrs | csrrc | csrrwi | csrrsi | csrrci =>
    unfold refHandler
    exact effect_csrAnswer ..
  case sret => exact effect_handleSret c
  case mret => exact effect_handleMret c
  case sfenceVma => exact effect_handleSfenceVma ..
  case cJ | cJr => exact .goto (by decide) ..

/-- Everything that the meaning of an instruction can be: a handler's answer concluded, the illegal-instruction trap, or the
no-op. -/
theorem exec_cases (i : Instr) (s : State) :
    (∃ a, Effect i.decl.mnemonic s.cpu a ∧ exec i s = .next (conclude deliver i.decl.pcclass i.decl.width s a)) ∨
      (exec i s = .next (takeTrap .illegalInstruction (s.lat.opcode.setWidth 64) s)) ∨
      exec i s = .next (retire (advance 2 s)) := by
  by_cases hk : i.decl.kind = .regular
  · exact .inl ⟨_, refHandler_effect .., exec_eq_refHandler i s hk⟩
  · right
    cases i
    case cNop => exact .inr rfl
    case illegalCAddi4spnZ | illegalCAddiwRd0 | illegalCAddi16spZ | illegalCLuiZ | illegalCLwspRd0 | illegalCLdspRd0
        | illegalCJrRs1z =>
      exact .inl rfl
    all_goals exact absurd rfl hk

/-! ## What no instruction does -/

/-- Settles O51: a handler's answer is concluded, whatever it is. -/
theorem everyInstructionCompletes : Obligations.EveryInstructionCompletes := by
  unfold Obligations.EveryInstructionCompletes
  intro i s
  obtain ⟨a, -, h⟩ | h | h := exec_cases i s
  · exact ⟨_, h⟩
  · exact ⟨_, h⟩
  · exact ⟨_, h⟩

theorem eq_mret_of_mnemonic {i : Instr} (h : i.decl.mnemonic = .mret) : i = .mret := by
  cases i
  case mret => rfl
  all_goals cases h

theorem eq_sret_of_mnemonic {i : Instr} (h : i.decl.mnemonic = .sret) : i = .sret := by
  cases i
  case sret => rfl
  all_goals cases h

/-- An answer of a handler that is done, by what it keeps of the CPU state: the width, the page map and the alignment policy. -/
theorem Effect.keepsPlatform {m : Mnemonic} {c d : Cpu} {taken : Bool} (h : Effect m c (.done taken d)) :
    d.xlen = c.xlen ∧ d.unmapped = c.unmapped ∧ d.align = c.align := by
  cases h <;> simp

/-- Only a trap return, done, writes the mode. -/
theorem Effect.keepsMode {m : Mnemonic} {c d : Cpu} {taken : Bool} (h : Effect m c (.done taken d)) (hm : m ≠ .mret)
    (hs : m ≠ .sret) : d.priv = c.priv := by
  cases h with
  | mret h => exact absurd h hm
  | sret h => exact absurd h hs
  | _ => simp

/-- Settles O60: by what an answer can be. -/
theorem onlyTrapsAndReturnsChangeTheMode : Obligations.OnlyTrapsAndReturnsChangeTheMode := by
  unfold Obligations.OnlyTrapsAndReturnsChangeTheMode
  intro i s t ht
  obtain ⟨a, heff, h⟩ | h | h := exec_cases i s
  · rw [h] at ht
    obtain rfl := Host.Outcome.next.inj ht
    cases a with
    | done taken d =>
      obtain ⟨hx, hu, ha⟩ := heff.keepsPlatform
      rw [conclude_done]
      exact ⟨hx, hu, ha, fun _ hm hs => heff.keepsMode (mt eq_mret_of_mnemonic hm) (mt eq_sret_of_mnemonic hs)⟩
    | raise k v d =>
      cases heff
      rw [conclude_raise]
      exact ⟨deliver_xlen .., deliver_unmapped .., deliver_align .., nofun⟩
  · rw [h] at ht
    obtain rfl := Host.Outcome.next.inj ht
    exact ⟨deliver_xlen .., deliver_unmapped .., deliver_align .., nofun⟩
  · rw [h] at ht
    obtain rfl := Host.Outcome.next.inj ht
    exact ⟨rfl, rfl, rfl, fun _ _ _ => rfl⟩

/-- A handler that is done in U wrote no CSR above user level. -/
theorem Effect.keepsPrivilegedCsrs {m : Mnemonic} {s : State} {d : Cpu} {taken : Bool} (h : Effect m s.cpu (.done taken d))
    (hwf : s.csrWf = true) (hu : s.cpu.priv = .user) {n : BitVec 12} (hn : n.toNat / 256 % 4 ≠ 0) :
    csrGet d n = csrGet s.cpu n := by
  cases h with
  | write => simp [csrGet]
  | nothing => rfl
  | store => simp [csrGet]
  | goto => simp [csrGet]
  | jump => simp [csrGet]
  | csr k hk u rd v =>
    obtain ⟨hlevel, -⟩ := (csrAllowed_iff s k true).mp hk
    rw [hu, level] at hlevel
    have hk0 : k ≠ 0x100#12 := by rintro rfl; exact absurd hlevel (by decide)
    have hkn : n ≠ k := by rintro rfl; omega
    calc csrGet (writeX (csrWrite s.cpu k u) rd v) n = csrGet (csrWrite s.cpu k u) n := by simp [csrGet]
      _ = written s k u n := csrGet_csrWrite s hwf k n u
      _ = csrGet s.cpu n := (if_neg hk0).trans (if_neg hkn)
  | mret _ h => rw [hu] at h; cases h
  | sret _ h => exact absurd hu h

/-- Settles O59: a retired instruction is one whose handler is done, and the access rule keeps it from the CSRs above U. -/
theorem userModeCannotReachPrivilegedState : Obligations.UserModeCannotReachPrivilegedState := by
  unfold Obligations.UserModeCannotReachPrivilegedState
  intro i s t hwf hu ht hret
  obtain ⟨a, heff, h⟩ | h | h := exec_cases i s
  · rw [h] at ht
    obtain rfl := Host.Outcome.next.inj ht
    cases a with
    | done taken d =>
      rw [conclude_done]
      refine ⟨?_, fun n hn => heff.keepsPrivilegedCsrs hwf hu hn⟩
      cases heff with
      | mret _ hp => rw [hu] at hp; cases hp
      | sret _ hp => exact absurd hu hp
      | _ => simp [hu]
    | raise k v d => rw [conclude_raise] at hret; cases hret
  · rw [h] at ht
    obtain rfl := Host.Outcome.next.inj ht
    cases hret
  · rw [h] at ht
    obtain rfl := Host.Outcome.next.inj ht
    exact ⟨hu, fun n _ => rfl⟩

end Sys2Proof.Machine
end

section
/-! PROOFS. Operand extraction and its inverse, bit by bit (43_application.md R130 to R134). -/

namespace Sys2Proof

/-! ## Segments -/

/-- Destination bit `j` belongs to the segment. -/
def Seg.DstAt (g : Seg) (j : Nat) : Prop := g.dstLo ≤ j ∧ j ≤ g.dstLo + (g.srcHi - g.srcLo)

/-- Opcode bit `i` belongs to the segment. -/
def Seg.SrcAt (g : Seg) (i : Nat) : Prop := g.srcLo ≤ i ∧ i ≤ g.srcHi

theorem Seg.wf_iff (g : Seg) : g.wf = true ↔ g.srcLo ≤ g.srcHi ∧ g.srcHi ≤ 31 ∧ g.dstLo + (g.srcHi - g.srcLo) ≤ 63 := by
  simp [Seg.wf, and_assoc]

theorem getLsbD_segSrcMask {g : Seg} (h : g.wf = true) (i : Nat) : g.srcMask.getLsbD i = true ↔ g.SrcAt i := by
  obtain ⟨-, hhi, -⟩ := (Seg.wf_iff g).mp h
  exact getLsbD_bitRange hhi i

theorem getLsbD_segDstMask {g : Seg} (h : g.wf = true) (j : Nat) : g.dstMask.getLsbD j = true ↔ g.DstAt j := by
  obtain ⟨hle, hhi, hdst⟩ := (Seg.wf_iff g).mp h
  simp only [Seg.dstMask, Seg.DstAt, BitVec.getLsbD_shiftLeft, getLsbD_lowOnes (show g.srcHi + 1 - g.srcLo ≤ 64 by omega),
    Bool.and_eq_true, Bool.not_eq_true', decide_eq_true_eq, decide_eq_false_iff_not]
  omega

theorem getLsbD_opcodeBits (w : Opcode) {hi lo : Nat} (hle : lo ≤ hi) (hhi : hi ≤ 31) (k : Nat) :
    (opcodeBits w hi lo).getLsbD k = true ↔ k ≤ hi - lo ∧ w.getLsbD (lo + k) = true := by
  simp only [opcodeBits, BitVec.getLsbD_setWidth, BitVec.getLsbD_ushiftRight, BitVec.getLsbD_and, Bool.and_eq_true,
    getLsbD_bitRange hhi, decide_eq_true_eq]
  constructor
  · rintro ⟨-, hw, -, hk⟩
    exact ⟨by omega, hw⟩
  · rintro ⟨hk, hw⟩
    exact ⟨by omega, hw, by omega, by omega⟩

theorem getLsbD_scatterSeg {g : Seg} (h : g.wf = true) (v : Word) (i : Nat) :
    (scatterSeg g v).getLsbD i = true ↔ g.SrcAt i ∧ v.getLsbD (g.dstLo + (i - g.srcLo)) = true := by
  obtain ⟨hle, hhi, -⟩ := (Seg.wf_iff g).mp h
  simp only [scatterSeg, Seg.SrcAt, BitVec.getLsbD_shiftLeft, BitVec.getLsbD_and, BitVec.getLsbD_setWidth, BitVec.getLsbD_ushiftRight,
    Bool.and_eq_true, getLsbD_bitRange (show g.srcHi - g.srcLo ≤ 31 by omega), Bool.not_eq_true', decide_eq_true_eq,
    decide_eq_false_iff_not]
  constructor
  · rintro ⟨⟨hi, hlo⟩, ⟨-, hv⟩, -, hk⟩
    exact ⟨by omega, hv⟩
  · rintro ⟨⟨hlo, hsrc⟩, hv⟩
    exact ⟨by omega, ⟨by omega, hv⟩, by omega, by omega⟩

/-- Members of a list whose masks are disjoint share no bit. -/
theorem eq_of_disjointMasks {α : Type} {n : Nat} (f : α → BitVec n) {l : List α} (h : disjointMasks (l.map f) = true) {a b : α}
    (ha : a ∈ l) (hb : b ∈ l) {i : Nat} (hai : (f a).getLsbD i = true) (hbi : (f b).getLsbD i = true) : a = b := by
  induction l with
  | nil => cases ha
  | cons c l ih =>
    simp only [List.map_cons, disjointMasks, Bool.and_eq_true, List.all_eq_true, List.mem_map, beq_iff_eq, BitVec.ofNat_eq_ofNat,
      forall_exists_index, and_imp, forall_apply_eq_imp_iff₂] at h
    obtain ⟨hc, hl⟩ := h
    rcases List.mem_cons.mp ha with rfl | ha'
    · rcases List.mem_cons.mp hb with rfl | hb'
      · rfl
      · have := (and_eq_zero_iff _ _).mp (hc b hb') i hai
        rw [hbi] at this
        cases this
    · rcases List.mem_cons.mp hb with rfl | hb'
      · have := (and_eq_zero_iff _ _).mp (hc a ha') i hbi
        rw [hai] at this
        cases this
      · exact ih hl ha' hb'

/-! ## Fields -/

/-- What R83 asks of the segments of one field. -/
structure ArgField.Wf (f : ArgField) : Prop where
  nonempty : f.segs ≠ []
  segs     : ∀ g ∈ f.segs, g.wf = true
  src      : disjointMasks (f.segs.map Seg.srcMask) = true
  dst      : disjointMasks (f.segs.map Seg.dstMask) = true

theorem ArgField.wf_of_mem {d : Declaration} (h : d.wf = true) {f : ArgField} (hf : f ∈ d.fields) : f.Wf := by
  simp only [Declaration.wf, Bool.and_eq_true] at h
  obtain ⟨⟨⟨⟨-, hsegs⟩, -⟩, -⟩, -⟩ := h
  simp only [Declaration.segmentsOk, List.all_eq_true] at hsegs
  have hf := hsegs f hf
  simp only [Bool.and_eq_true, Bool.not_eq_true', List.isEmpty_eq_false_iff, List.all_eq_true] at hf
  obtain ⟨⟨⟨hne, hwf⟩, hsrc⟩, hdst⟩ := hf
  exact ⟨hne, hwf, hsrc, hdst⟩

theorem foldl_max_le {α : Type} (k : α → Nat) (l : List α) (z n : Nat) :
    l.foldl (fun n a => max n (k a)) z ≤ n ↔ z ≤ n ∧ ∀ a ∈ l, k a ≤ n := by
  induction l generalizing z with
  | nil => simp
  | cons a l ih => simp [ih, and_assoc]

theorem nbits_le_iff (f : ArgField) (n : Nat) : f.nbits ≤ n ↔ ∀ g ∈ f.segs, g.dstLo + (g.srcHi - g.srcLo) + 1 ≤ n := by
  simp [ArgField.nbits, foldl_max_le]

theorem lt_nbits {f : ArgField} {g : Seg} (hg : g ∈ f.segs) {j : Nat} (hj : g.DstAt j) : j < f.nbits := by
  have h := (nbits_le_iff f f.nbits).mp (Nat.le_refl _) g hg
  obtain ⟨-, hj⟩ := hj
  omega

theorem getLsbD_fieldDstMask {f : ArgField} (h : f.Wf) (j : Nat) : f.dstMask.getLsbD j = true ↔ ∃ g ∈ f.segs, g.DstAt j := by
  simp only [ArgField.dstMask, getLsbD_foldl_or, BitVec.ofNat_eq_ofNat, BitVec.getLsbD_zero, Bool.false_eq_true, false_or]
  exact exists_congr fun g => and_congr_right fun hg => getLsbD_segDstMask (h.segs g hg) j

theorem getLsbD_fieldSrcMask {f : ArgField} (h : f.Wf) (i : Nat) : f.srcMask.getLsbD i = true ↔ ∃ g ∈ f.segs, g.SrcAt i := by
  simp only [ArgField.srcMask, getLsbD_foldl_or, BitVec.ofNat_eq_ofNat, BitVec.getLsbD_zero, Bool.false_eq_true, false_or]
  exact exists_congr fun g => and_congr_right fun hg => getLsbD_segSrcMask (h.segs g hg) i

section
variable {f : ArgField} (h : f.Wf)
include h

theorem nbits_le_64 : f.nbits ≤ 64 := by
  rw [nbits_le_iff]
  intro g hg
  obtain ⟨-, -, hdst⟩ := (Seg.wf_iff g).mp (h.segs g hg)
  omega

theorem nbits_pos : 0 < f.nbits := by
  obtain ⟨g, hg⟩ := List.exists_mem_of_ne_nil _ h.nonempty
  exact Nat.zero_lt_of_lt (lt_nbits hg ⟨Nat.le_refl _, Nat.le_add_right ..⟩)

/-- A bit of the packed value is the opcode bit of the segment that holds it. -/
theorem getLsbD_gather_iff (w : Opcode) (j : Nat) :
    (gather f.segs w).getLsbD j = true ↔ ∃ g ∈ f.segs, g.DstAt j ∧ w.getLsbD (g.srcLo + (j - g.dstLo)) = true := by
  simp only [gather, getLsbD_foldl_or, BitVec.ofNat_eq_ofNat, BitVec.getLsbD_zero, Bool.false_eq_true, false_or]
  refine exists_congr fun g => and_congr_right fun hg => ?_
  obtain ⟨hle, hhi, hdst⟩ := (Seg.wf_iff g).mp (h.segs g hg)
  simp only [BitVec.getLsbD_shiftLeft, Bool.and_eq_true, Bool.not_eq_true', decide_eq_true_eq, decide_eq_false_iff_not,
    getLsbD_opcodeBits w hle hhi, Seg.DstAt]
  constructor
  · rintro ⟨⟨hj, hlo⟩, hk, hw⟩
    exact ⟨⟨by omega, by omega⟩, hw⟩
  · rintro ⟨⟨hlo, hk⟩, hw⟩
    exact ⟨⟨by omega, by omega⟩, by omega, hw⟩

theorem getLsbD_gather (w : Opcode) {g : Seg} (hg : g ∈ f.segs) {j : Nat} (hj : g.DstAt j) :
    (gather f.segs w).getLsbD j = w.getLsbD (g.srcLo + (j - g.dstLo)) := by
  rw [Bool.eq_iff_iff, getLsbD_gather_iff h]
  constructor
  · rintro ⟨e, he, hej, hw⟩
    obtain rfl := eq_of_disjointMasks Seg.dstMask h.dst hg he ((getLsbD_segDstMask (h.segs g hg) j).mpr hj)
      ((getLsbD_segDstMask (h.segs e he) j).mpr hej)
    exact hw
  · exact fun hw => ⟨g, hg, hj, hw⟩

theorem getLsbD_gather_uncovered (w : Opcode) {j : Nat} (hj : f.dstMask.getLsbD j = false) : (gather f.segs w).getLsbD j = false := by
  rw [← Bool.not_eq_true, getLsbD_gather_iff h]
  rintro ⟨g, hg, hgj, -⟩
  rw [(getLsbD_fieldDstMask h j).mpr ⟨g, hg, hgj⟩] at hj
  cases hj

theorem getLsbD_gather_above (w : Opcode) {j : Nat} (hj : f.nbits ≤ j) : (gather f.segs w).getLsbD j = false := by
  rw [← Bool.not_eq_true, getLsbD_gather_iff h]
  rintro ⟨g, hg, hgj, -⟩
  exact absurd (lt_nbits hg hgj) (by omega)

/-- Below the width of the field, `Extract` is the packed value; the sign is above it. -/
theorem getLsbD_extract (w : Opcode) {j : Nat} (hj : j < f.nbits) : (extract f w).getLsbD j = (gather f.segs w).getLsbD j := by
  have h64 := nbits_le_64 h
  unfold extract
  cases f.signed
  · rfl
  · simp only [if_true, signExtendFrom, BitVec.getLsbD_signExtend, BitVec.getLsbD_setWidth, hj, show j < 64 by omega, decide_true,
      Bool.true_and]

theorem toNat_extract_lt (w : Opcode) (hs : f.signed = false) : (extract f w).toNat < 2 ^ f.nbits := by
  simp only [extract, hs, Bool.false_eq_true, if_false]
  exact Nat.lt_pow_two_of_testBit _ fun j hj => getLsbD_gather_above h w hj

/-- `sext_n` of any value is in the signed range of `n` bits. -/
theorem toInt_signExtendFrom (v : Word) :
    -(2 ^ (f.nbits - 1) : Int) ≤ (signExtendFrom f.nbits v).toInt ∧ (signExtendFrom f.nbits v).toInt < 2 ^ (f.nbits - 1) := by
  rw [signExtendFrom, BitVec.toInt_signExtend_of_le (nbits_le_64 h)]
  exact ⟨BitVec.le_toInt _, BitVec.toInt_lt⟩

end

/-- Settles O5: the bits of `Extract`, and the range of the packed value. -/
theorem extractGathersTheSegments : Obligations.ExtractGathersTheSegments := by
  unfold Obligations.ExtractGathersTheSegments
  intro d f w hd hf
  have h := ArgField.wf_of_mem hd hf
  refine ⟨fun g hg k hk => ?_, fun k hk hmask => ?_, fun hs => toNat_extract_lt h w hs, fun hs => ?_⟩
  · have hdst : g.DstAt (g.dstLo + k) := ⟨Nat.le_add_right .., Nat.add_le_add_left hk _⟩
    rw [getLsbD_extract h w (lt_nbits hg hdst), getLsbD_gather h w hg hdst, Nat.add_sub_cancel_left]
  · rw [getLsbD_extract h w hk, getLsbD_gather_uncovered h w hmask]
  · simp only [extract, hs, if_true]
    exact toInt_signExtendFrom h _

/-! ## Encoding -/

/-- A value in the range of its field is what the field's packed bits give back. -/
theorem extract_eq_of_bits {f : ArgField} (h : f.Wf) {w : Opcode} {v : Word} (hv : fieldInRange f v = true)
    (hbits : ∀ j < f.nbits, (gather f.segs w).getLsbD j = v.getLsbD j) : extract f w = v := by
  have hlow : (gather f.segs w).setWidth f.nbits = v.setWidth f.nbits := by
    apply BitVec.eq_of_getLsbD_eq
    intro j hj
    simp only [BitVec.getLsbD_setWidth, hj, decide_true, Bool.true_and, hbits j hj]
  simp only [fieldInRange, Bool.and_eq_true] at hv
  obtain ⟨hrange, -⟩ := hv
  unfold extract
  split at hrange
  case isTrue hs =>
    rw [if_pos hs, signExtendFrom, hlow]
    exact beq_iff_eq.mp hrange
  case isFalse hs =>
    rw [if_neg hs, ← beq_iff_eq.mp hrange, ← hlow]
    apply BitVec.eq_of_getLsbD_eq
    intro j hj
    simp only [BitVec.getLsbD_setWidth, hj, decide_true, Bool.true_and]
    by_cases hjn : j < f.nbits
    · simp [hjn]
    · simp [hjn, getLsbD_gather_above h w (Nat.le_of_not_lt hjn)]

/-- A value in range has no bit at a place that no segment covers. -/
theorem getLsbD_of_fieldInRange {f : ArgField} {v : Word} (hv : fieldInRange f v = true) {j : Nat} (hj : j < f.nbits)
    (hmask : f.dstMask.getLsbD j = false) : v.getLsbD j = false := by
  simp only [fieldInRange, Bool.and_eq_true, beq_iff_eq] at hv
  obtain ⟨-, hz⟩ := hv
  have hz := congrArg (BitVec.getLsbD · j) hz
  by_cases h64 : j < 64
  · simpa only [BitVec.getLsbD_setWidth, BitVec.getLsbD_and, BitVec.getLsbD_not, hj, hmask, h64, decide_true, Bool.true_and,
      Bool.not_false, Bool.and_true, BitVec.getLsbD_zero] using hz
  · exact BitVec.getLsbD_of_ge v j (by omega)

theorem getLsbD_scatter {f : ArgField} (h : f.Wf) (v : Word) (i : Nat) :
    (scatter f.segs v).getLsbD i = true ↔ ∃ g ∈ f.segs, g.SrcAt i ∧ v.getLsbD (g.dstLo + (i - g.srcLo)) = true := by
  simp only [scatter, getLsbD_foldl_or, BitVec.ofNat_eq_ofNat, BitVec.getLsbD_zero, Bool.false_eq_true, false_or]
  exact exists_congr fun g => and_congr_right fun hg => getLsbD_scatterSeg (h.segs g hg) v i

section
variable {d : Declaration} (hd : d.wf = true) {vs : List Word}

theorem fieldsOk_of_wf {d : Declaration} (hd : d.wf = true) :
    (∀ f ∈ d.fields, f.srcMask &&& d.mask = 0#32) ∧ disjointMasks (d.fields.map ArgField.srcMask) = true := by
  simp only [Declaration.wf, Bool.and_eq_true] at hd
  obtain ⟨⟨⟨-, hf⟩, -⟩, -⟩ := hd
  simp only [Declaration.fieldsOk, Bool.and_eq_true, List.all_eq_true, beq_iff_eq] at hf
  exact hf

include hd

theorem wf_of_mem_zip {p : ArgField × Word} (hp : p ∈ d.fields.zip vs) : p.1.Wf :=
  ArgField.wf_of_mem hd (List.of_mem_zip hp).1

theorem getLsbD_encodeWith (i : Nat) : (encodeWith d vs).getLsbD i = true ↔
    d.pattern.getLsbD i = true ∨
      ∃ p ∈ d.fields.zip vs, ∃ g ∈ p.1.segs, g.SrcAt i ∧ p.2.getLsbD (g.dstLo + (i - g.srcLo)) = true := by
  rw [encodeWith, getLsbD_foldl_or]
  exact or_congr_right (exists_congr fun p => and_congr_right fun hp => getLsbD_scatter (wf_of_mem_zip hd hp) p.2 i)

/-- No field reads a fixed bit. -/
theorem mask_of_srcAt {f : ArgField} (hf : f ∈ d.fields) {g : Seg} (hg : g ∈ f.segs) {i : Nat} (hi : g.SrcAt i) :
    d.mask.getLsbD i = false :=
  (and_eq_zero_iff _ _).mp ((fieldsOk_of_wf hd).1 f hf) i ((getLsbD_fieldSrcMask (ArgField.wf_of_mem hd hf) i).mpr ⟨g, hg, hi⟩)

theorem isMatch_encodeWith : d.isMatch (encodeWith d vs) = true := by
  have hp := Machine.patternOk_of_wf hd
  rw [Machine.isMatch_iff hp]
  intro i hi
  rw [Bool.eq_iff_iff, getLsbD_encodeWith hd]
  refine or_iff_left ?_
  rintro ⟨p, hmem, g, hg, hsrc, -⟩
  rw [mask_of_srcAt hd (List.of_mem_zip hmem).1 hg hsrc] at hi
  cases hi

/-- The bit of a value is at the opcode bit of its segment. -/
theorem getLsbD_encodeWith_src (hlen : vs.length = d.fields.length) {p : ArgField × Word} (hp : p ∈ d.fields.zip vs) {g : Seg}
    (hg : g ∈ p.1.segs) {i : Nat} (hi : g.SrcAt i) :
    (encodeWith d vs).getLsbD i = p.2.getLsbD (g.dstLo + (i - g.srcLo)) := by
  have hwf := wf_of_mem_zip hd hp
  have hmask := mask_of_srcAt hd (List.of_mem_zip hp).1 hg hi
  have hpat : d.pattern.getLsbD i = false := by
    rw [← Bool.not_eq_true]
    intro h
    rw [Machine.mask_of_pattern (Machine.patternOk_of_wf hd) h] at hmask
    cases hmask
  have hdisj : disjointMasks ((d.fields.zip vs).map fun p => p.1.srcMask) = true := by
    have h := (fieldsOk_of_wf hd).2
    rw [← List.map_fst_zip (l₁ := d.fields) (l₂ := vs) (by omega), List.map_map] at h
    exact h
  rw [Bool.eq_iff_iff, getLsbD_encodeWith hd, hpat]
  constructor
  · rintro (h | ⟨q, hq, e, he, hei, hv⟩)
    · cases h
    · have hqwf := wf_of_mem_zip hd hq
      obtain rfl := eq_of_disjointMasks (fun p : ArgField × Word => p.1.srcMask) hdisj hp hq
        ((getLsbD_fieldSrcMask hwf i).mpr ⟨g, hg, hi⟩) ((getLsbD_fieldSrcMask hqwf i).mpr ⟨e, he, hei⟩)
      obtain rfl := eq_of_disjointMasks Seg.srcMask hwf.src hg he ((getLsbD_segSrcMask (hwf.segs g hg) i).mpr hi)
        ((getLsbD_segSrcMask (hwf.segs e he) i).mpr hei)
      exact hv
  · exact fun hv => .inr ⟨p, hp, g, hg, hi, hv⟩

theorem extract_encodeWith (hlen : vs.length = d.fields.length) {p : ArgField × Word} (hp : p ∈ d.fields.zip vs)
    (hv : fieldInRange p.1 p.2 = true) : extract p.1 (encodeWith d vs) = p.2 := by
  have hwf := wf_of_mem_zip hd hp
  refine extract_eq_of_bits hwf hv fun j hj => ?_
  cases hmask : p.1.dstMask.getLsbD j with
  | false => rw [getLsbD_gather_uncovered hwf _ hmask, getLsbD_of_fieldInRange hv hj hmask]
  | true =>
    obtain ⟨g, hg, hgj⟩ := (getLsbD_fieldDstMask hwf j).mp hmask
    obtain ⟨hle, -, -⟩ := (Seg.wf_iff g).mp (hwf.segs g hg)
    obtain ⟨hlo, hhi⟩ := hgj
    rw [getLsbD_gather hwf _ hg ⟨hlo, hhi⟩, getLsbD_encodeWith_src hd hlen hp hg ⟨by omega, by omega⟩,
      show g.dstLo + (g.srcLo + (j - g.dstLo) - g.srcLo) = j by omega]

theorem apply_encodeWith (hv : valuesInRange d vs = true) : apply d (encodeWith d vs) = vs := by
  simp only [valuesInRange, Bool.and_eq_true, beq_iff_eq, List.all_eq_true] at hv
  obtain ⟨hlen, hall⟩ := hv
  calc apply d (encodeWith d vs) = ((d.fields.zip vs).map Prod.fst).map (fun f => extract f (encodeWith d vs)) := by
        rw [List.map_fst_zip (by omega)]; rfl
    _ = (d.fields.zip vs).map fun p => extract p.1 (encodeWith d vs) := List.map_map
    _ = (d.fields.zip vs).map Prod.snd := List.map_congr_left fun p hp => extract_encodeWith hd hlen hp (hall p hp)
    _ = vs := List.map_snd_zip (by omega)

end

theorem encodeChecked_eq_none {d : Declaration} {vs : List Word} (h : ¬ valuesInRange d vs = true) : encodeChecked d vs = none :=
  if_neg h

/-- Settles O6: the values come back bit by bit, and a refused list breaks one of the conditions of the range. -/
theorem applyRecoversEncodedValues : Obligations.ApplyRecoversEncodedValues := by
  unfold Obligations.ApplyRecoversEncodedValues
  intro d vs hd
  refine ⟨fun hv => ⟨_, (Machine.encodeChecked_eq_some d vs _).mpr ⟨hv, rfl⟩, isMatch_encodeWith hd, apply_encodeWith hd hv⟩,
    fun hlen => ?_, fun k f v hf hv hout => ?_⟩
  · refine encodeChecked_eq_none fun h => hlen ?_
    simp only [valuesInRange, Bool.and_eq_true, beq_iff_eq] at h
    exact h.1
  · refine encodeChecked_eq_none fun h => ?_
    simp only [valuesInRange, Bool.and_eq_true, List.all_eq_true] at h
    have hwf := ArgField.wf_of_mem hd (List.mem_of_getElem? hf)
    have hr : fieldInRange f v = true :=
      h.2 (f, v) (List.mem_of_getElem? (List.getElem?_zip_eq_some.mpr ⟨hf, hv⟩))
    rcases hout with ⟨hs, hbig⟩ | ⟨hs, hout⟩ | ⟨i, hi, hmask, hbit⟩
    · simp only [fieldInRange, hs, Bool.false_eq_true, if_false, Bool.and_eq_true, beq_iff_eq] at hr
      have hlt := ((v.setWidth f.nbits)).isLt
      have := congrArg BitVec.toNat hr.1
      rw [BitVec.toNat_setWidth_of_le (nbits_le_64 hwf)] at this
      omega
    · simp only [fieldInRange, hs, if_true, Bool.and_eq_true, beq_iff_eq] at hr
      have hrange := toInt_signExtendFrom hwf v
      rw [hr.1] at hrange
      omega
    · rw [getLsbD_of_fieldInRange hr hi hmask] at hbit
      cases hbit

end Sys2Proof
end

section
/-! PROOFS. The step through typed meanings is the generic pass (44_dispatch_loop.md; logs 21, 22). -/

namespace Sys2Proof.Machine

open Sys2Proof.Claims

/-! ## Decoded instructions and handlers on operand lists -/

/-- What decoding makes of a reference declaration is an instruction of that declaration. -/
theorem decl_of_ofApplication {m : Mnemonic} {v : Variant} {d : Declaration} (hd : refDecl m v = some d) {a : List Word} {i : Instr}
    (hi : Instr.ofApplication m v a = some i) : i.decl = d := by
  cases m
  case other => cases hd
  case slli | srli | srai | cSlli | cSrli | cSrai =>
    cases v
    all_goals
      obtain rfl := Option.some.inj hd
      obtain rfl := Option.some.inj hi
      rfl
  all_goals
    obtain rfl := Option.some.inj hd
    obtain rfl := Option.some.inj hi
    rfl

/-- The shift amount of an RV32 form has five bits, so its handler may read six. -/
theorem conclude_shift_extract {f : ArgField} {d : Declaration} (hd : d.wf = true) (hf : f ∈ d.fields) (hs : f.signed = false)
    (hn : f.nbits = 5) (w : Opcode) (op : (w : Nat) → BitVec w → BitVec w → BitVec w) (n : Nat) (s : State) (rd rs1 : BitVec 5) :
    Host.Outcome.next (conclude deliver .seq n s (aluAnswer op s.cpu rd rs1 (uimm ((extract f w).setWidth 5)))) =
      (.next (conclude deliver .seq n s (aluAnswer op s.cpu rd rs1 (uimm ((extract f w).setWidth 6)))) : Result) := by
  have hlt := toNat_extract_lt (ArgField.wf_of_mem hd hf) w hs
  rw [hn] at hlt
  have h : uimm ((extract f w).setWidth 5) = uimm ((extract f w).setWidth 6) := by
    apply BitVec.eq_of_toNat_eq
    simp only [uimm, BitVec.toNat_setWidth]
    omega
  rw [h]

/-- A decoded instruction means the handler of its mnemonic on the operands that `apply` gives. -/
theorem exec_ofApplication {m : Mnemonic} {v : Variant} {d : Declaration} (hd : refDecl m v = some d) {w : Opcode} {i : Instr}
    (hi : Instr.ofApplication m v (apply d w) = some i) (hm : m ∈ refMnemonics) (s : State) :
    exec i s =
      .next (conclude deliver d.pcclass d.width s (refHandler m (argsFor (refBinding m) d w s.lat.pc0) s.cpu)) := by
  cases m
  case other => cases hd
  case illegalCAddi4spnZ | illegalCAddiwRd0 | illegalCAddi16spZ | illegalCLuiZ | illegalCLwspRd0 | illegalCLdspRd0 | illegalCJrRs1z
      | cNop =>
    exact absurd hm (by decide)
  case slli | srli | srai =>
    cases v
    case rv32 =>
      obtain rfl := Option.some.inj hd
      obtain rfl := Option.some.inj hi
      exact conclude_shift_extract (f := Fld.shamt5) (d := Ref.slli32) (by decide) (by decide) rfl (by decide) ..
    all_goals
      obtain rfl := Option.some.inj hd
      obtain rfl := Option.some.inj hi
      rfl
  case cSlli | cSrli | cSrai =>
    cases v
    case rv32 =>
      obtain rfl := Option.some.inj hd
      obtain rfl := Option.some.inj hi
      exact conclude_shift_extract (f := Fld.shamtC5) (d := Ref.cSlli32) (by decide) (by decide) rfl (by decide) ..
    all_goals
      obtain rfl := Option.some.inj hd
      obtain rfl := Option.some.inj hi
      rfl
  all_goals
    obtain rfl := Option.some.inj hd
    obtain rfl := Option.some.inj hi
    rfl

/-- A declaration that decodes is the reference one of its mnemonic and variant. -/
theorem ofDecl_eq_some {d : Declaration} {w : Opcode} {i : Instr} (h : Instr.ofDecl d w = some i) :
    refDecl d.mnemonic d.variant = some d ∧ Instr.ofApplication d.mnemonic d.variant (apply d w) = some i := by
  unfold Instr.ofDecl at h
  split at h
  case isTrue hd => exact ⟨hd, h⟩
  case isFalse => cases h

theorem decl_of_ofDecl {d : Declaration} {w : Opcode} {i : Instr} (h : Instr.ofDecl d w = some i) : i.decl = d :=
  decl_of_ofApplication (ofDecl_eq_some h).1 (ofDecl_eq_some h).2

/-! ## EXECUTE and UPDATE-PC with a reference handler -/

theorem refBinding_handler (m : Mnemonic) : (refBinding m).handler = m := rfl

/-- EXECUTE and UPDATE-PC of a declaration whose mnemonic is bound to its reference handler, for any TRAP_CODE. -/
theorem restExecute_reference (code : TrapKind → Nat) {u : State} {d : Declaration} (hr : u.lat.res = .decl d)
    (hm : d.mnemonic ∈ refMnemonics) (hb : bindOf u.bind d.mnemonic = some (refBinding d.mnemonic)) :
    restExecute (collaboratorsWith code) u =
      .next (conclude (deliverWith code) d.pcclass d.width (noteCall (.handler d.mnemonic u.lat.args) u)
        (refHandler d.mnemonic u.lat.args u.cpu)) := by
  have hcall : (collaboratorsWith code).handler d.mnemonic u.lat.args u.cpu = .returns (refHandler d.mnemonic u.lat.args u.cpu) :=
    callHandler_reference _ _ _ hm
  rw [restExecute, executeStage_bound _ hr hb, refBinding_handler, hcall, afterCall_returns]
  exact conclude_eq (deliverWith code) (noteCall (.handler d.mnemonic u.lat.args) u) _ d hr

/-- In EXECUTE the latches hold a declaration, and the arguments that its bound handler asks for. -/
theorem extractStage_latches {s u : State} (h : extractStage s = .next u) :
    ∃ d b, u.lat.res = .decl d ∧ bindOf u.bind d.mnemonic = some b ∧ u.lat.args = argsFor b d u.lat.opcode u.lat.pc0 := by
  cases hr : s.lat.res with
  | decl d =>
    cases hb : bindOf s.bind d.mnemonic with
    | some b =>
      rw [extractStage_bound hr hb] at h
      obtain rfl := Host.Outcome.next.inj h
      exact ⟨d, b, hr, hb, rfl⟩
    | none => simp [extractStage, hr, hb] at h
  | nop d => simp [extractStage, hr] at h
  | illegal => simp [extractStage, hr] at h

/-- The parts of a pass up to EXTRACT-ARGS and up to EXECUTE. -/
theorem beforeExtract_reaches (c : Collaborators) (s : State) :
    ReachesOrEnds c .extract (latched s) (continueAt .decode (decodeStage c) (continueAt .fetch (fetchStage c) (startStage s))) :=
  ((startStage_reachesOrEnds c s).continueAt (fetchStage_reachesOrEnds c)).continueAt (decodeStage_reachesOrEnds c)

theorem beforeExecute_reaches (c : Collaborators) (s : State) : ReachesOrEnds c .execute (latched s) (beforeExecute c s) :=
  (beforeExtract_reaches c s).continueAt (extractStage_reachesOrEnds c)

theorem pass_eq_continueAt (c : Collaborators) (s : State) : pass c s = continueAt .execute (restExecute c) (beforeExecute c s) :=
  fromExecute_of_reaches (beforeExecute_reaches c s)

theorem beforeExecute_latches {c : Collaborators} {s u : State} (h : beforeExecute c s = .next u) (hp : u.phase = .execute) :
    ∃ d b, u.lat.res = .decl d ∧ bindOf u.bind d.mnemonic = some b ∧ u.lat.args = argsFor b d u.lat.opcode u.lat.pc0 := by
  have hreach := beforeExtract_reaches c s
  unfold beforeExecute at h
  generalize continueAt .decode (decodeStage c) (continueAt .fetch (fetchStage c) (startStage s)) = o at h hreach
  cases o with
  | next v =>
    by_cases hv : v.phase = .extract
    · rw [continueAt_same _ _ _ hv] at h
      exact extractStage_latches h
    · rw [continueAt_other _ _ _ hv] at h
      obtain rfl := Host.Outcome.next.inj h
      obtain ⟨hx | hi, -⟩ := hreach
      · exact absurd hx hv
      · rw [hp] at hi
        cases hi
  | fault r => cases h
  | refused r => cases h

/-- The typed meaning of a latched declaration is the call of its handler. -/
theorem runLatched_eq_restExecute {u : State} {d : Declaration} {b : Binding} (hr : u.lat.res = .decl d)
    (hb : bindOf u.bind d.mnemonic = some b) (hargs : u.lat.args = argsFor b d u.lat.opcode u.lat.pc0) :
    runLatched u = restExecute refCollaborators u := by
  obtain ⟨i, hbound, hi, h⟩ | ⟨-, h⟩ := runLatched_cases u d hr
  · obtain ⟨hm, hb'⟩ := (boundToReference_iff _ _).mp hbound
    obtain rfl : b = refBinding d.mnemonic := Option.some.inj (hb.symm.trans hb')
    obtain ⟨hd, happ⟩ := ofDecl_eq_some hi
    rw [h, exec_ofApplication hd happ hm]
    exact (congrArg (fun a => Host.Outcome.next (conclude deliver d.pcclass d.width
      (noteCall (.handler d.mnemonic u.lat.args) u) (refHandler d.mnemonic a u.cpu))) hargs.symm).trans
      (restExecute_reference trapCode hr hm hb').symm
  · exact h

/-- Settles O54: the two formulations agree from EXECUTE on, and share the stages before it. -/
theorem stepIsTheGenericPass : Obligations.StepIsTheGenericPass := by
  unfold Obligations.StepIsTheGenericPass
  intro s
  rw [pass_eq_continueAt]
  change continueAt .execute runLatched (beforeExecute refCollaborators s) = _
  cases ho : beforeExecute refCollaborators s with
  | next u =>
    by_cases hp : u.phase = .execute
    · obtain ⟨d, b, hr, hb, hargs⟩ := beforeExecute_latches ho hp
      rw [continueAt_same _ _ _ hp, continueAt_same _ _ _ hp, runLatched_eq_restExecute hr hb hargs]
    · rw [continueAt_other _ _ _ hp, continueAt_other _ _ _ hp]
  | fault r => rfl
  | refused r => rfl

end Sys2Proof.Machine
end

section
/-! PROOFS. Every pass from a good state ends, in a good state (44_dispatch_loop.md R161; 20_memory.md R33). -/

namespace Sys2Proof.Machine

open Sys2Proof.Claims

/-! ## The CPU state -/

/-- The part of the invariant that is about the CPU state. -/
structure CpuInv (c : Cpu) : Prop where
  even : isOdd c.pc = false
  mem  : Memory.wf c.mem = true
  csr  : csrFileWf c = true
  x0   : c.x[0] = 0#64

theorem inv_iff (s : State) : s.Inv ↔ s.Built ∧ s.phase = .idle ∧ CpuInv s.cpu := by
  constructor
  · intro h
    exact ⟨h.built, h.idle, by simpa [State.pcEven] using h.pcEven, h.memWf, h.csrWf, by simpa [State.x0Zero] using h.x0Zero⟩
  · rintro ⟨hb, hi, he, hm, hc, hx⟩
    exact ⟨hb, hi, by simpa [State.pcEven] using he, hm, hc, by simpa [State.x0Zero] using hx⟩

theorem CpuInv.withPc {c : Cpu} (h : CpuInv c) {a : Word} (ha : isOdd a = false) : CpuInv { c with pc := a } :=
  ⟨ha, h.mem, h.csr, h.x0⟩

/-- Trap entry keeps the CPU state good, for any TRAP_CODE. -/
theorem CpuInv.deliverWith {c : Cpu} (h : CpuInv c) (code : TrapKind → Nat) (k : TrapKind) (v : Word) :
    CpuInv (deliverWith code k v c) := by
  refine ⟨?_, ?_, csrFileWf_deliverWith code k v c h.csr, ?_⟩
  · unfold Machine.deliverWith
    split
    · exact isOdd_vectorPc c _ h.even
    · exact isOdd_vectorPc c _ h.even
  · rw [deliverWith_mem]
    exact h.mem
  · simp only [deliverWith_x]
    exact h.x0

theorem writeX_x0 (c : Cpu) (rd : BitVec 5) (v : Word) : (writeX c rd v).x[0] = c.x[0] := by
  unfold writeX
  split
  · rfl
  case isFalse h =>
    have hne : rd.toNat ≠ 0 := fun h0 => h (BitVec.eq_of_toNat_eq h0)
    exact Vector.getElem_set_ne rd.isLt (by decide) hne

/-- Memory, the CSR file and x0 stay good under every answer of a handler that is done. -/
theorem Effect.keepsInv {m : Mnemonic} {c d : Cpu} {taken : Bool} (h : Effect m c (.done taken d)) (hc : CpuInv c)
    (heven : isOdd d.pc = false) : CpuInv d := by
  refine ⟨heven, ?_, ?_, ?_⟩
  · cases h with
    | store n a v => exact Memory.wf_storeBytes _ n a v c hc.mem
    | _ => simpa using hc.mem
  · cases h with
    | write rd v => exact (csrFileWf_congr _ c (writeX_csr ..)).trans hc.csr
    | nothing => exact hc.csr
    | store n a v => exact (csrFileWf_congr _ c (storeBytes_csr ..)).trans hc.csr
    | goto hm taken t => exact hc.csr
    | jump hm rd v t => exact (csrFileWf_congr _ c (writeX_csr ..)).trans hc.csr
    | csr n hn u rd v =>
      exact (csrFileWf_congr _ (csrWrite c n u) (writeX_csr ..)).trans (csrFileWf_csrWrite c n u hc.csr)
    | mret => exact csrFileWf_csrPut c _ _ hc.csr
    | sret => exact csrFileWf_csrPut c _ _ hc.csr
  · cases h with
    | write rd v => exact (writeX_x0 ..).trans hc.x0
    | nothing => exact hc.x0
    | store n a v => simp only [storeBytes_x]; exact hc.x0
    | goto hm taken t => exact hc.x0
    | jump hm rd v t => exact (writeX_x0 ..).trans hc.x0
    | csr n hn u rd v => rw [writeX_x0]; simp only [csrWrite_x]; exact hc.x0
    | mret => exact hc.x0
    | sret => exact hc.x0

/-! ## Even targets -/

/-- Only control transfers write `pc`; a trap return clears bit 0. -/
theorem Effect.keepsEven {m : Mnemonic} {c d : Cpu} {taken : Bool} (h : Effect m c (.done taken d)) (hm : m ∉ controlMnemonics)
    (hc : isOdd c.pc = false) : isOdd d.pc = false := by
  cases h with
  | goto h => exact absurd h hm
  | jump h => exact absurd h hm
  | mret => rw [returnM_pc, isOdd_wrapAddr, isOdd_evenAddr]
  | sret => rw [returnS_pc, isOdd_wrapAddr, isOdd_evenAddr]
  | _ => simpa using hc

/-- An answer that leaves `pc` even, if it is done. -/
def LeavesEven (a : Answer) : Prop := ∀ taken d, a = .done taken d → isOdd d.pc = false

theorem leavesEven_goto {c : Cpu} {taken : Bool} {t : Word} (ht : isOdd t = false) : LeavesEven (.done taken (writePc c t)) := by
  rintro _ _ ⟨⟩
  rw [writePc_pc, isOdd_wrapAddr, ht]

theorem leavesEven_branch {c : Cpu} {pc0 off : Word} (holds : Bool) (hc : isOdd c.pc = false)
    (ht : isOdd (relTarget pc0 off) = false) : LeavesEven (branchAnswer c holds pc0 off) := by
  cases holds
  · rintro _ _ ⟨⟩
    exact hc
  · exact leavesEven_goto ht

theorem leavesEven_jump {c : Cpu} {rd : BitVec 5} {width pc0 t : Word} (ht : isOdd t = false) :
    LeavesEven (jumpAnswer c rd width pc0 t) := leavesEven_goto ht

/-- The offsets of the direct jumps and of the branches have no bit 0: no segment of their fields covers it. -/
theorem isOdd_relTarget {f : ArgField} {d : Declaration} (hd : d.wf = true) (hf : f ∈ d.fields) (hmask : f.dstMask.getLsbD 0 = false)
    {n : Nat} (hn : 0 < n) (w : Opcode) {pc0 : Word} (hp : isOdd pc0 = false) :
    isOdd (relTarget pc0 (simm ((extract f w).setWidth n))) = false := by
  have hwf := ArgField.wf_of_mem hd hf
  have hbit : (extract f w).getLsbD 0 = false := by
    rw [getLsbD_extract hwf w (nbits_pos hwf), getLsbD_gather_uncovered hwf w hmask]
  rw [relTarget, isOdd_add, hp, isOdd, simm, BitVec.getLsbD_signExtend, if_pos hn, BitVec.getLsbD_setWidth, hbit]
  simp

theorem isOdd_regTarget (c : Cpu) (base : BitVec 5) (off : Word) : isOdd (regTarget c base off) = false := isOdd_evenAddr _

/-- The handlers of the control transfers, on decoded operands. -/
theorem refHandler_leavesEven {m : Mnemonic} (hm : m ∈ controlMnemonics) {v : Variant} {d : Declaration} (hd : refDecl m v = some d)
    (w : Opcode) {pc0 : Word} (hp : isOdd pc0 = false) {c : Cpu} (hc : isOdd c.pc = false) :
    LeavesEven (refHandler m (argsFor (refBinding m) d w pc0) c) := by
  have immJ := isOdd_relTarget (f := Fld.immJ) (d := Ref.jal) (by decide) (by decide) (by decide) (n := 21) (by decide) w hp
  have immB := isOdd_relTarget (f := Fld.immB) (d := Ref.beq) (by decide) (by decide) (by decide) (n := 13) (by decide) w hp
  have immCj := isOdd_relTarget (f := Fld.immCj) (d := Ref.cJ) (by decide) (by decide) (by decide) (n := 12) (by decide) w hp
  have immCb := isOdd_relTarget (f := Fld.immCb) (d := Ref.cBeqz) (by decide) (by decide) (by decide) (n := 9) (by decide) w hp
  simp only [controlMnemonics, List.mem_cons, List.not_mem_nil, or_false] at hm
  rcases hm with rfl | rfl | rfl | rfl | rfl | rfl | rfl | rfl | rfl | rfl | rfl | rfl | rfl | rfl
  all_goals obtain rfl := Option.some.inj hd
  · exact leavesEven_jump immJ
  · exact leavesEven_jump (isOdd_regTarget ..)
  · exact leavesEven_branch _ hc immB
  · exact leavesEven_branch _ hc immB
  · exact leavesEven_branch _ hc immB
  · exact leavesEven_branch _ hc immB
  · exact leavesEven_branch _ hc immB
  · exact leavesEven_branch _ hc immB
  · exact leavesEven_jump immCj
  · exact leavesEven_goto immCj
  · exact leavesEven_branch _ hc immCb
  · exact leavesEven_branch _ hc immCb
  · exact leavesEven_goto (isOdd_regTarget ..)
  · exact leavesEven_jump (isOdd_regTarget ..)

/-! ## Decisions of the reference trees -/

theorem refDecls_all : refDecls.all (fun d => d.wf && refDecl d.mnemonic d.variant == some d &&
    (d.kind != .regular || refMnemonics.contains d.mnemonic)) = true := by decide +kernel

theorem refDecls_facts {d : Declaration} (h : d ∈ refDecls) :
    d.wf = true ∧ refDecl d.mnemonic d.variant = some d ∧ (d.kind = .regular → d.mnemonic ∈ refMnemonics) := by
  have hd := List.all_eq_true.mp refDecls_all d h
  simp only [Bool.and_eq_true, beq_iff_eq, Bool.or_eq_true, bne_iff_ne, List.contains_iff_mem] at hd
  obtain ⟨⟨hwf, href⟩, hmem⟩ := hd
  exact ⟨hwf, href, fun hk => hmem.resolve_left (not_not.mpr hk)⟩

theorem bindOf_refBind_all : refMnemonics.all (fun m => bindOf refBind m == some (refBinding m)) = true := by decide +kernel

theorem bindOf_refBind {m : Mnemonic} (h : m ∈ refMnemonics) : bindOf refBind m = some (refBinding m) :=
  beq_iff_eq.mp (List.all_eq_true.mp bindOf_refBind_all m h)

theorem decideTree_built {s : State} (h : s.Built) (x : Xlen) (w : Opcode) :
    decideTree (treeOf s x) w = decideSpec (variantDecls x refDecls) w := by
  obtain ⟨h32, h64⟩ := referenceTreesDecideAsSpecified w
  cases x
  · rw [treeOf, h.tree32, h32]
  · rw [treeOf, h.tree64, h64]

theorem mem_of_winner {x : Xlen} {w : Opcode} {d : Declaration} (h : winner (variantDecls x refDecls) w = some d) :
    d ∈ refDecls ∧ d.isMatch w = true := by
  obtain ⟨hmem, hmatch⟩ := List.mem_filter.mp (mostSpecific_eq_some h).1
  exact ⟨(List.mem_filter.mp hmem).1, hmatch⟩

/-- A decision that names a declaration is the winner's, of the kind that it says. -/
theorem winner_of_decideSpec_decl {ds : List Declaration} {w : Opcode} {d : Declaration} (h : decideSpec ds w = .decl d) :
    winner ds w = some d ∧ d.kind = .regular := by
  unfold decideSpec at h
  cases hw : winner ds w with
  | none => simp [hw] at h
  | some e =>
    simp only [hw, resultOf] at h
    cases hk : e.kind <;> simp [hk] at h
    exact ⟨congrArg some h, h ▸ hk⟩

theorem winner_of_decideSpec_nop {ds : List Declaration} {w : Opcode} {d : Declaration} (h : decideSpec ds w = .nop d) :
    winner ds w = some d ∧ d.kind = .nop := by
  unfold decideSpec at h
  cases hw : winner ds w with
  | none => simp [hw] at h
  | some e =>
    simp only [hw, resultOf] at h
    cases hk : e.kind <;> simp [hk] at h
    exact ⟨congrArg some h, h ▸ hk⟩

theorem isOdd_advance {d : Declaration} (hd : d.wf = true) {pc0 : Word} (hp : isOdd pc0 = false) :
    isOdd (pc0 + widthWord d.width) = false := by
  simp only [Declaration.wf, Declaration.widthOk, Bool.and_eq_true, Bool.or_eq_true, beq_iff_eq] at hd
  obtain ⟨⟨⟨⟨⟨⟨⟨hw, -⟩, -⟩, -⟩, -⟩, -⟩, -⟩, -⟩ := hd
  have hodd : isOdd (widthWord d.width) = false := by
    rcases hw with h | h
    · rw [h]; rfl
    · rw [h]; rfl
  rw [isOdd_add, hp, hodd]
  rfl

/-! ## A pass -/

/-- The pass ends in a good CPU state with the tables of `s`, and not at a breakpoint. -/
def EndsWell (s : State) (o : Result) : Prop :=
  ∃ t, o = .next t ∧ t.phase = .idle ∧ CpuInv t.cpu ∧ SameTables s t ∧ stopOf t.outcome = none

theorem EndsWell.of_sameTables {s u : State} {o : Result} (h : EndsWell u o) (hsu : SameTables s u) : EndsWell s o := by
  obtain ⟨t, ho, hp, hc, hut, hstop⟩ := h
  exact ⟨t, ho, hp, hc, hsu.trans hut, hstop⟩

theorem firstRead_same (u : State) : SameTables u (firstRead u) := (noteCall_same _ _).trans (noteCall_same _ _)

theorem secondTranslated_same (u : State) : SameTables u (secondTranslated u) := (firstRead_same u).trans (noteCall_same _ _)

/-- FETCH raises a trap on an untouched CPU state, or goes on to DECODE with it. -/
theorem fetchStage_cases (c : Collaborators) (u : State) :
    (∃ k v t, fetchStage c u = raiseTrap c.deliver k v t ∧ t.cpu = u.cpu ∧ SameTables u t) ∨
      ∃ t, fetchStage c u = .next t ∧ t.phase = .decode ∧ t.cpu = u.cpu ∧ SameTables u t := by
  cases h1 : c.translate u.cpu u.lat.pc0 with
  | error k => exact .inl ⟨_, _, _, fetchStage_fault h1, rfl, noteCall_same _ _⟩
  | ok e =>
    cases hl : isLong (c.readHalf u.cpu e u.lat.pc0) with
    | false =>
      obtain ⟨hp, hc, ht⟩ := fetchedShort_same (c.readHalf u.cpu e u.lat.pc0) (firstRead u)
      exact .inr ⟨_, fetchStage_short h1 hl, hp, hc, (firstRead_same u).trans ht⟩
    | true =>
      cases hx : crossesPage c.pageSize u.lat.pc0 with
      | false =>
        obtain ⟨hp, hc, ht⟩ := fetchSecond_same c (c.readHalf u.cpu e u.lat.pc0) e (u.lat.pc0 + 2) (firstRead u)
        exact .inr ⟨_, fetchStage_samePage h1 hl hx, hp, hc, (firstRead_same u).trans ht⟩
      | true =>
        cases h2 : c.translate u.cpu (u.lat.pc0 + 2) with
        | error k => exact .inl ⟨_, _, _, fetchStage_crossing_fault h1 hl hx h2, rfl, secondTranslated_same u⟩
        | ok e2 =>
          obtain ⟨hp, hc, ht⟩ := fetchSecond_same c (c.readHalf u.cpu e u.lat.pc0) e2 (u.lat.pc0 + 2) (secondTranslated u)
          exact .inr ⟨_, fetchStage_crossing h1 hl hx h2, hp, hc, (secondTranslated_same u).trans ht⟩

section
variable (code : TrapKind → Nat)

theorem endsWell_raiseTrap {u : State} (hc : CpuInv u.cpu) (hp : isOdd u.lat.pc0 = false) (k : TrapKind) (v : Word) :
    EndsWell u (raiseTrap (collaboratorsWith code).deliver k v u) :=
  ⟨_, raiseTrap_returns (deliverWith code) k v u, rfl, (hc.withPc hp).deliverWith code k v,
    ⟨rfl, rfl, rfl, rfl, rfl, rfl, rfl⟩, rfl⟩

/-- EXECUTE and UPDATE-PC of a reference declaration. -/
theorem endsWell_restExecute {u : State} {d : Declaration} (hd : d ∈ refDecls) (hk : d.kind = .regular) (hb : u.bind = refBind)
    (hr : u.lat.res = .decl d) (hargs : u.lat.args = argsFor (refBinding d.mnemonic) d u.lat.opcode u.lat.pc0)
    (hc : CpuInv u.cpu) (hp : isOdd u.lat.pc0 = false) : EndsWell u (restExecute (collaboratorsWith code) u) := by
  obtain ⟨hwf, href, hmem⟩ := refDecls_facts hd
  have hm := hmem hk
  rw [restExecute_reference code hr hm (hb ▸ bindOf_refBind hm)]
  have heff := refHandler_effect d.mnemonic u.lat.args u.cpu
  have heven : LeavesEven (refHandler d.mnemonic u.lat.args u.cpu) := by
    by_cases hctl : d.mnemonic ∈ controlMnemonics
    · rw [hargs]
      exact refHandler_leavesEven hctl href _ hp hc.even
    · intro taken e he
      rw [he] at heff
      exact heff.keepsEven hctl hc.even
  cases ha : refHandler d.mnemonic u.lat.args u.cpu with
  | done taken e =>
    have he := heven taken e ha
    rw [ha] at heff
    rw [conclude_done]
    refine ⟨_, rfl, rfl, (heff.keepsInv hc he).withPc ?_, ⟨rfl, rfl, rfl, rfl, rfl, rfl, rfl⟩, rfl⟩
    split
    · exact isOdd_advance hwf hp
    · exact he
  | raise k v e =>
    rw [ha] at heff
    cases heff
    rw [conclude_raise]
    exact ⟨_, rfl, rfl, (hc.withPc hp).deliverWith code k v, ⟨rfl, rfl, rfl, rfl, rfl, rfl, rfl⟩, rfl⟩

/-- DECODE and what follows, in a built block. -/
theorem endsWell_restDecode {u : State} (hb : u.Built) (hc : CpuInv u.cpu) (hp : isOdd u.lat.pc0 = false) :
    EndsWell u (restDecode (collaboratorsWith code) u) := by
  obtain ⟨-, h⟩ | ⟨d, hd, h⟩ | ⟨d, hd, h⟩ := restDecode_cases (collaboratorsWith code) u
  · rw [h]
    exact (endsWell_raiseTrap code (u := setRes .illegal u) hc hp _ _).of_sameTables ⟨rfl, rfl, rfl, rfl, rfl, rfl, rfl⟩
  · rw [decideTree_built hb] at hd
    obtain ⟨hmem, -⟩ := mem_of_winner (winner_of_decideSpec_nop hd).1
    rw [h]
    exact ⟨_, rfl, rfl, hc.withPc (isOdd_advance (refDecls_facts hmem).1 hp), ⟨rfl, rfl, rfl, rfl, rfl, rfl, rfl⟩, rfl⟩
  · rw [decideTree_built hb] at hd
    obtain ⟨hw, hk⟩ := winner_of_decideSpec_decl hd
    obtain ⟨hmem, -⟩ := mem_of_winner hw
    have hbind : bindOf u.bind d.mnemonic = some (refBinding d.mnemonic) := by
      rw [hb.bind]
      exact bindOf_refBind ((refDecls_facts hmem).2.2 hk)
    rw [h, restExtract, extractStage_bound (s := { setRes (.decl d) u with phase := .extract }) rfl hbind, continueAt_same .execute _ _ rfl]
    refine EndsWell.of_sameTables (endsWell_restExecute code hmem hk ?_ ?_ ?_ ?_ ?_) ⟨rfl, rfl, rfl, rfl, rfl, rfl, rfl⟩
    · exact hb.bind
    · rfl
    · rfl
    · exact hc
    · exact hp

/-- FETCH and what follows. -/
theorem endsWell_restFetch {u : State} (hb : u.Built) (hc : CpuInv u.cpu) (hp : isOdd u.lat.pc0 = false) :
    EndsWell u (restFetch (collaboratorsWith code) u) := by
  obtain ⟨k, v, t, h, hcpu, ht⟩ | ⟨t, h, hph, hcpu, ht⟩ := fetchStage_cases (collaboratorsWith code) u
  · rw [restFetch, h, continueAt_raiseTrap (by decide)]
    exact (endsWell_raiseTrap code (hcpu ▸ hc) (ht.pc0 ▸ hp) k v).of_sameTables ht
  · rw [restFetch, h, continueAt_same .decode _ _ hph]
    have hbt : t.Built := ⟨ht.tree32.trans hb.tree32, ht.tree64.trans hb.tree64, ht.bind.trans hb.bind⟩
    exact (endsWell_restDecode code hbt (hcpu ▸ hc) (ht.pc0 ▸ hp)).of_sameTables ht

/-- A pass from a good state ends in a good state, with the same breakpoints; without any it does not end at one. -/
theorem pass_keepsInv {s : State} (h : s.Inv) : ∃ t, pass (collaboratorsWith code) s = .next t ∧ t.Inv ∧ t.bp = s.bp ∧
    (s.bp = none → stopOf t.outcome = none) := by
  obtain ⟨hb, hi, hc⟩ := (inv_iff s).mp h
  cases hbp : breakpointAt s.bp s.cpu.pc with
  | true =>
    refine ⟨_, pass_of_startStage_idle _ (startStage_breakpoint hi hc.even hbp) hi,
      (inv_iff _).mpr ⟨⟨hb.tree32, hb.tree64, hb.bind⟩, hi, hc⟩, rfl, fun hn => ?_⟩
    rw [hn] at hbp
    cases hbp
  | false =>
    have hbs : (started s).Built := ⟨hb.tree32, hb.tree64, hb.bind⟩
    obtain ⟨t, ht, hp, hct, hst, hstop⟩ := endsWell_restFetch code (u := started s) hbs hc hc.even
    refine ⟨t, (pass_of_starts _ ⟨hi, hc.even, hbp⟩).trans ht,
      (inv_iff t).mpr ⟨⟨?_, ?_, ?_⟩, hp, hct⟩, hst.bp, fun _ => hstop⟩
    · exact hst.tree32.trans hb.tree32
    · exact hst.tree64.trans hb.tree64
    · exact hst.bind.trans hb.bind

end

/-- Settles O55: what a pass from a good state ends in. -/
theorem everyStepKeepsTheInvariant : Obligations.EveryStepKeepsTheInvariant := by
  unfold Obligations.EveryStepKeepsTheInvariant
  intro s t h
  have keeps (code : TrapKind → Nat) (hp : pass (collaboratorsWith code) s = .next t) : t.Inv := by
    obtain ⟨u, hu, hinv, -⟩ := pass_keepsInv code h
    rw [hu] at hp
    exact Host.Outcome.next.inj hp ▸ hinv
  exact ⟨fun hs => keeps trapCode ((stepIsTheGenericPass s).symm.trans hs), keeps⟩

/-- Settles O56: the fields of the reset state, one by one. -/
theorem resetMeetsTheInvariant : Obligations.ResetMeetsTheInvariant :=
  ⟨⟨rfl, rfl, rfl⟩, rfl, by decide, Memory.wf_reset, by decide, by decide⟩

/-- Settles O57: a pass from a good state ends. -/
theorem noGoodStateStops : Obligations.NoGoodStateStops := by
  unfold Obligations.NoGoodStateStops
  intro s h
  have ends (code : TrapKind → Nat) : ∃ t, pass (collaboratorsWith code) s = .next t := by
    obtain ⟨t, ht, -⟩ := pass_keepsInv code h
    exact ⟨t, ht⟩
  exact ⟨(stepIsTheGenericPass s).symm ▸ ends trapCode, ends⟩

theorem step_eq_pass : step = pass refCollaborators := funext stepIsTheGenericPass

theorem inv_setBudget {s : State} (n : Nat) (h : s.Inv) : (setBudget n s).Inv :=
  ⟨⟨h.built.tree32, h.built.tree64, h.built.bind⟩, h.idle, h.pcEven, h.memWf, h.csrWf, h.x0Zero⟩

/-- Settles O58: by induction on the number of passes; each ends in a good state, and none at a breakpoint. -/
theorem runCompletesFromGoodStates : Obligations.RunCompletesFromGoodStates := by
  unfold Obligations.RunCompletesFromGoodStates
  intro n s h hbp
  rw [run, runWith_idle step n h.idle]
  induction n generalizing s with
  | zero => exact ⟨_, rfl, inv_setBudget 0 h, rfl⟩
  | succ n ih =>
    obtain ⟨t, ht, hinv, hbpt, hstop⟩ := pass_keepsInv trapCode (inv_setBudget (n + 1) h)
    have hstep : step (setBudget (n + 1) s) = .next t := (stepIsTheGenericPass _).trans ht
    rw [runLoop_succ, hstep]
    simp only [hstop hbp]
    exact ih t hinv (hbpt.trans hbp)

end Sys2Proof.Machine
end

section
/-! PROOFS. A step runs what its fetch decodes (44_dispatch_loop.md R140; 20_memory.md R32; 30_encoding.md R50, R51). -/

namespace Sys2Proof.Machine

open Sys2Proof.Claims

/-! ## The fetch of the reference machine -/

theorem refCollaborators_readHalf : refCollaborators.readHalf = refReadHalf := rfl

section
variable {u : State} {e : Nat} (he : refTranslate u.cpu u.lat.pc0 = .ok e)
include he

theorem fetchStage_ref_short (hl : isLong (refReadHalf u.cpu e u.lat.pc0) = false) :
    fetchStage refCollaborators u = .next (fetchedShort (refReadHalf u.cpu e u.lat.pc0) (firstRead u)) :=
  fetchStage_short (c := refCollaborators) he hl

variable (hl : isLong (refReadHalf u.cpu e u.lat.pc0) = true)
include hl

theorem fetchStage_ref_samePage (hx : crossesPage Config.tcPageSize u.lat.pc0 = false) :
    fetchStage refCollaborators u =
      .next (fetchedLong (refReadHalf u.cpu e u.lat.pc0) (refReadHalf u.cpu e (u.lat.pc0 + 2))
        (noteCall (.readHalf (u.lat.pc0 + 2)) (firstRead u))) := by
  rw [← refCollaborators_readHalf] at hl ⊢
  exact fetchStage_samePage he hl hx

theorem fetchStage_ref_crossing {e2 : Nat} (hx : crossesPage Config.tcPageSize u.lat.pc0 = true)
    (he2 : refTranslate u.cpu (u.lat.pc0 + 2) = .ok e2) :
    fetchStage refCollaborators u =
      .next (fetchedLong (refReadHalf u.cpu e u.lat.pc0) (refReadHalf u.cpu e2 (u.lat.pc0 + 2))
        (noteCall (.readHalf (u.lat.pc0 + 2)) (secondTranslated u))) := by
  rw [← refCollaborators_readHalf] at hl ⊢
  exact fetchStage_crossing he hl hx he2

end

/-! ## A declaration -/

/-- What a completed fetch leaves for DECODE. -/
structure Fetched (s u : State) (w : Opcode) (n : Nat) : Prop where
  phase  : u.phase = .decode
  cpu    : u.cpu = s.cpu
  tables : SameTables (started s) u
  opcode : u.lat.opcode = w
  ilen   : u.lat.ilen = n

theorem fetched_short (s : State) (lo : Half) : Fetched s (fetchedShort lo (firstRead (started s))) (shortOpcode lo) 2 := by
  obtain ⟨hp, hc, ht⟩ := fetchedShort_same lo (firstRead (started s))
  exact ⟨hp, hc, (firstRead_same _).trans ht, rfl, rfl⟩

theorem fetched_long {s u : State} (lo hi : Half) (hcpu : u.cpu = s.cpu) (hu : SameTables (started s) u) :
    Fetched s (fetchedLong lo hi u) (longOpcode lo hi) 4 :=
  ⟨rfl, hcpu, hu.trans ⟨rfl, rfl, rfl, rfl, rfl, rfl, rfl⟩, rfl, rfl⟩

/-- The state in which EXECUTE begins, for a declaration that is bound to its reference handler. -/
def atHandler (u : State) (d : Declaration) : State :=
  { u with
    phase := .execute
    lat := { u.lat with res := .decl d, args := argsFor (refBinding d.mnemonic) d u.lat.opcode u.lat.pc0 } }

theorem treeOf_of_sameTables {s u : State} (h : SameTables s u) (x : Xlen) : treeOf u x = treeOf s x := by
  cases x with
  | w32 => exact h.tree32
  | w64 => exact h.tree64

theorem Fetched.decideTree_eq {s u : State} {w : Opcode} {n : Nat} (h : Fetched s u w n) :
    decideTree (treeOf u u.lat.xlen0) u.lat.opcode = decideTree (treeOf s s.cpu.xlen) w := by
  rw [h.opcode, treeOf_of_sameTables h.tables, h.tables.xlen0]
  exact congrArg (decideTree · w) (treeOf_of_sameTables (s := s) ⟨rfl, rfl, rfl, rfl, rfl, rfl, rfl⟩ _)

/-- From a completed fetch of a reference declaration to its meaning. -/
theorem step_of_fetched {s u : State} {d : Declaration} {i : Instr} {w : Opcode} {n : Nat} (hs : Starts s)
    (hf : fetchStage refCollaborators (started s) = .next u) (hu : Fetched s u w n)
    (hd : decideTree (treeOf s s.cpu.xlen) w = .decl d) (hm : d.mnemonic ∈ refMnemonics)
    (hb : bindOf s.bind d.mnemonic = some (refBinding d.mnemonic)) (hi : Instr.ofDecl d w = some i) :
    step s = exec i (noteCall (.handler d.mnemonic (atHandler u d).lat.args) (atHandler u d)) := by
  have hbu : bindOf u.bind d.mnemonic = some (refBinding d.mnemonic) := hu.tables.bind ▸ hb
  have hiu : Instr.ofDecl d u.lat.opcode = some i := hu.opcode ▸ hi
  have hbefore : beforeExecute refCollaborators s = .next (atHandler u d) := by
    rw [beforeExecute, startStage_of_starts hs, continueAt_same .fetch _ _ rfl, hf, continueAt_same .decode _ _ hu.phase,
      decodeStage_decl _ (hu.decideTree_eq.trans hd), continueAt_same .extract _ _ rfl]
    exact extractStage_bound (s := { setRes (.decl d) u with phase := .extract }) rfl hbu
  rw [step, refPass, hbefore, continueAt_same .execute _ _ rfl]
  obtain ⟨j, -, hj, h⟩ | ⟨hno | hno, -⟩ := runLatched_cases (atHandler u d) d rfl
  · obtain rfl : j = i := Option.some.inj (hj.symm.trans hiu)
    exact h
  · have hyes := (boundToReference_iff _ _).mpr ⟨hm, hbu⟩
    exact absurd (hno.symm.trans hyes) (by decide)
  · exact absurd (hno.symm.trans hiu) nofun

section
variable (s : State) (d : Declaration) (lo hi : Half)

theorem atHandler_short :
    noteCall (.handler d.mnemonic (atHandler (fetchedShort lo (firstRead (started s))) d).lat.args)
        (atHandler (fetchedShort lo (firstRead (started s))) d) =
      atExecute s d lo s.lat.hi16 (shortOpcode lo) 2 [.translate s.cpu.pc, .readHalf s.cpu.pc] := by
  simp only [atHandler, fetchedShort, noteCall, firstRead, started, latched, atExecute]
  rfl

theorem atHandler_samePage :
    noteCall (.handler d.mnemonic
          (atHandler (fetchedLong lo hi (noteCall (.readHalf (s.cpu.pc + 2)) (firstRead (started s)))) d).lat.args)
        (atHandler (fetchedLong lo hi (noteCall (.readHalf (s.cpu.pc + 2)) (firstRead (started s)))) d) =
      atExecute s d lo hi (longOpcode lo hi) 4 [.translate s.cpu.pc, .readHalf s.cpu.pc, .readHalf (s.cpu.pc + 2)] := by
  simp only [atHandler, fetchedLong, noteCall, firstRead, started, latched, atExecute]
  rfl

theorem atHandler_crossing :
    noteCall (.handler d.mnemonic
          (atHandler (fetchedLong lo hi (noteCall (.readHalf (s.cpu.pc + 2)) (secondTranslated (started s)))) d).lat.args)
        (atHandler (fetchedLong lo hi (noteCall (.readHalf (s.cpu.pc + 2)) (secondTranslated (started s)))) d) =
      atExecute s d lo hi (longOpcode lo hi) 4
        [.translate s.cpu.pc, .readHalf s.cpu.pc, .translate (s.cpu.pc + 2), .readHalf (s.cpu.pc + 2)] := by
  simp only [atHandler, fetchedLong, secondTranslated, noteCall, firstRead, started, latched, atExecute]
  rfl

end

/-- Settles O52: the three ways in which FETCH completes. -/
theorem stepRunsTheDecodedInstruction : Obligations.StepRunsTheDecodedInstruction := by
  unfold Obligations.StepRunsTheDecodedInstruction
  intro s e d i hs hbind hm he lo runs
  have hb : bindOf s.bind d.mnemonic = some (refBinding d.mnemonic) := hbind ▸ bindOf_refBind hm
  refine ⟨fun hl hd hi => ?_, fun hl hpage hd hi => ?_, fun hl hpage e2 he2 hd hi => ?_⟩
  · rw [step_of_fetched hs (fetchStage_ref_short (u := started s) he hl) (fetched_short s _) hd hm hb hi]
    exact congrArg (exec i) (atHandler_short s d _)
  · have hx : crossesPage Config.tcPageSize s.cpu.pc = false := by
      rw [Bool.eq_false_iff, ne_eq, crossesPage_iff]
      exact hpage
    rw [step_of_fetched hs (fetchStage_ref_samePage (u := started s) he hl hx)
      (fetched_long _ _ rfl ((firstRead_same _).trans (noteCall_same _ _))) hd hm hb hi]
    exact congrArg (exec i) (atHandler_samePage s d _ _)
  · have hx : crossesPage Config.tcPageSize s.cpu.pc = true := (crossesPage_iff _ _).mpr hpage
    rw [step_of_fetched hs (fetchStage_ref_crossing (u := started s) he hl hx he2)
      (fetched_long _ _ rfl ((secondTranslated_same _).trans (noteCall_same _ _))) hd hm hb hi]
    exact congrArg (exec i) (atHandler_crossing s d _ _)

/-! ## Bytes -/

theorem isOdd_eq_false_iff (a : Word) : isOdd a = false ↔ a.toNat % 2 = 0 := by
  simp [isOdd, BitVec.getLsbD, Nat.testBit_zero]

/-- A byte is read through the entry of its own page. -/
theorem backing_of_pageOf {a b : Word} (h : pageOf b = pageOf a) : backing (pageOf a) b = b := by
  apply BitVec.eq_of_toNat_eq
  have hb := b.isLt
  rw [backing, ← h, pageOf, Nat.div_add_mod', BitVec.toNat_ofNat, Nat.mod_eq_of_lt hb]

section
variable {a : Word} (ha : isOdd a = false)
include ha

theorem toNat_add_one_of_even : (a + 1).toNat = a.toNat + 1 := by
  have h := (isOdd_eq_false_iff a).mp ha
  have hlt := a.isLt
  rw [BitVec.toNat_add]
  exact Nat.mod_eq_of_lt (by simp; omega)

theorem pageOf_add_one : pageOf (a + 1) = pageOf a := by
  have h := (isOdd_eq_false_iff a).mp ha
  rw [pageOf, toNat_add_one_of_even ha, pageOf, Config.tcPageSize]
  omega

/-- A half-word lies in one page. -/
theorem refReadHalf_of_even (c : Cpu) : refReadHalf c (pageOf a) a = halfOf (byteAt c a) (byteAt c (a + 1)) := by
  rw [refReadHalf, backing_of_pageOf rfl, backing_of_pageOf (pageOf_add_one ha)]

theorem pageOf_add_two (hx : crossesPage Config.tcPageSize a = false) : pageOf (a + 2) = pageOf a := by
  have h := (isOdd_eq_false_iff a).mp ha
  have hlt := a.isLt
  rw [Bool.eq_false_iff, ne_eq, crossesPage_iff] at hx
  simp only [pageOf, Config.tcPageSize] at hx ⊢
  rw [BitVec.toNat_add, show BitVec.toNat (2 : Word) = 2 from rfl]
  omega

theorem isOdd_add_two : isOdd (a + 2) = false := by
  rw [isOdd_add, ha]
  rfl

end

theorem refTranslate_mapped {c : Cpu} {a : Word} (h : tagOf c.unmapped (pageOf a) = none) : refTranslate c a = .ok (pageOf a) := by
  simp only [refTranslate, h]

theorem toNat_halfOf (b0 b1 : Byte) : (halfOf b0 b1).toNat = b0.toNat + 256 * b1.toNat := by
  rw [halfOf, BitVec.toNat_append, ← Nat.shiftLeft_add_eq_or_of_lt b0.isLt, Nat.shiftLeft_eq]
  omega

/-- The fetch of mapped bytes at an even `pc`: a 2-byte form by its first half-word, a 4-byte form by both. -/
theorem fetchStage_mapped {s : State} (heven : isOdd s.cpu.pc = false)
    (h0 : tagOf s.cpu.unmapped (pageOf s.cpu.pc) = none) (h2 : tagOf s.cpu.unmapped (pageOf (s.cpu.pc + 2)) = none) :
    let lo := halfOf (byteAt s.cpu s.cpu.pc) (byteAt s.cpu (s.cpu.pc + 1))
    let hi := halfOf (byteAt s.cpu (s.cpu.pc + 2)) (byteAt s.cpu (s.cpu.pc + 2 + 1))
    (isLong lo = true → ∃ u, fetchStage refCollaborators (started s) = .next u ∧ Fetched s u (longOpcode lo hi) 4) ∧
      (isLong lo = false → ∃ u, fetchStage refCollaborators (started s) = .next u ∧ Fetched s u (shortOpcode lo) 2) := by
  intro lo hi
  have ht := refTranslate_mapped h0
  have hlo : refReadHalf s.cpu (pageOf s.cpu.pc) s.cpu.pc = lo := refReadHalf_of_even heven s.cpu
  have hhi : refReadHalf s.cpu (pageOf (s.cpu.pc + 2)) (s.cpu.pc + 2) = hi := refReadHalf_of_even (isOdd_add_two heven) s.cpu
  refine ⟨fun hl => ?_, fun hl => ?_⟩
  · rw [← hlo] at hl
    cases hx : crossesPage Config.tcPageSize s.cpu.pc with
    | false =>
      rw [pageOf_add_two heven hx] at hhi
      have h := fetchStage_ref_samePage (u := started s) ht hl hx
      rw [show (started s).cpu = s.cpu from rfl, show (started s).lat.pc0 = s.cpu.pc from rfl, hlo, hhi] at h
      exact ⟨_, h, fetched_long lo hi rfl ((firstRead_same _).trans (noteCall_same _ _))⟩
    | true =>
      have h := fetchStage_ref_crossing (u := started s) ht hl hx (refTranslate_mapped h2)
      rw [show (started s).cpu = s.cpu from rfl, show (started s).lat.pc0 = s.cpu.pc from rfl, hlo, hhi] at h
      exact ⟨_, h, fetched_long lo hi rfl ((secondTranslated_same _).trans (noteCall_same _ _))⟩
  · rw [← hlo] at hl
    have h := fetchStage_ref_short (u := started s) ht hl
    rw [show (started s).cpu = s.cpu from rfl, show (started s).lat.pc0 = s.cpu.pc from rfl, hlo] at h
    exact ⟨_, h, fetched_short s lo⟩

/-! ## Decoding -/

theorem decodeWord_eq_some {x : Xlen} {w : Opcode} {i : Instr} (h : decodeWord x w = some i) :
    ∃ d, winner (variantDecls x refDecls) w = some d ∧ Instr.ofDecl d w = some i := by
  unfold decodeWord at h
  cases hw : winner (variantDecls x refDecls) w with
  | none => simp [hw] at h
  | some d => exact ⟨d, rfl, by simpa [hw] using h⟩

theorem decodeWord_of_decodeOpcode {x : Xlen} {w : Opcode} {i : Instr} {l rest : List Byte}
    (h : (decodeOpcode x w).map (·, l) = .ok (i, rest)) : decodeWord x w = some i := by
  unfold decodeOpcode at h
  cases hw : decodeWord x w with
  | none => simp [hw, Except.map] at h
  | some j =>
    simp only [hw, Except.map, Except.ok.injEq, Prod.mk.injEq] at h
    rw [h.1]

/-- Four bytes decode by the word that their length makes. -/
theorem decodeWord_of_decode {x : Xlen} {b0 b1 b2 b3 : Byte} {i : Instr} {rest : List Byte}
    (h : decode x [b0, b1, b2, b3] = .ok (i, rest)) :
    decodeWord x (if isLong (halfOf b0 b1) = true then longOpcode (halfOf b0 b1) (halfOf b2 b3)
      else shortOpcode (halfOf b0 b1)) = some i := by
  simp only [decode] at h
  split at h
  case isTrue hl =>
    rw [if_pos hl]
    exact decodeWord_of_decodeOpcode h
  case isFalse hl =>
    rw [if_neg hl]
    exact decodeWord_of_decodeOpcode h

theorem width_of_wf {d : Declaration} (h : d.wf = true) : d.width = 2 ∨ d.width = 4 := by
  simp only [Declaration.wf, Declaration.widthOk, Bool.and_eq_true, Bool.or_eq_true, beq_iff_eq] at h
  obtain ⟨⟨⟨⟨⟨⟨⟨hw, -⟩, -⟩, -⟩, -⟩, -⟩, -⟩, -⟩ := h
  exact hw

/-- The low two bits of a matching word tell the width. -/
theorem width_eq_four_iff {d : Declaration} (hd : d.wf = true) {w : Opcode} (hm : d.isMatch w = true) :
    d.width = 4 ↔ w.toNat % 4 = 3 := by
  simp only [Declaration.wf, Declaration.lengthBitsOk, Bool.and_eq_true, beq_iff_eq] at hd
  obtain ⟨⟨⟨⟨⟨⟨⟨-, -⟩, hmask, hlen⟩, -⟩, -⟩, -⟩, -⟩, -⟩ := hd
  have hw : d.pattern &&& 3 = w &&& 3 := by
    rw [← beq_iff_eq.mp hm, BitVec.and_assoc, hmask]
  have hmod : (w &&& 3) = 3 ↔ w.toNat % 4 = 3 := by
    rw [← BitVec.toNat_inj, BitVec.toNat_and]
    exact Eq.congr_left (Nat.and_two_pow_sub_one_eq_mod w.toNat 2)
  rw [← hmod, ← hw]
  have h := Bool.eq_iff_iff.mp hlen
  simp only [beq_iff_eq] at h
  exact h.symm

/-! ## Meanings that are no handler's -/

theorem exec_of_nop {i : Instr} (h : i.decl.kind = .nop) (s : State) : exec i s = .next (retire (advance i.decl.width s)) := by
  cases i
  case cNop => rfl
  all_goals cases h

theorem exec_of_illegal {i : Instr} (h : i.decl.kind = .illegal) (s : State) :
    exec i s = .next (takeTrap .illegalInstruction (s.lat.opcode.setWidth 64) s) := by
  cases i
  case illegalCAddi4spnZ | illegalCAddiwRd0 | illegalCAddi16spZ | illegalCLuiZ | illegalCLwspRd0 | illegalCLdspRd0
      | illegalCJrRs1z =>
    rfl
  all_goals cases h

/-! ## The step from a completed fetch -/

/-- What UPDATE-PC leaves of the CPU state and says of the pass depends on the latched address and the answer alone. -/
theorem conclude_congr {s s' : State} (hp : s'.lat.pc0 = s.lat.pc0) (k : PcClass) (n : Nat) (a : Answer) :
    (conclude deliver k n s' a).cpu = (conclude deliver k n s a).cpu ∧
      (conclude deliver k n s' a).outcome = (conclude deliver k n s a).outcome := by
  cases a with
  | done taken c => simp only [conclude_done, hp, and_self]
  | raise kind v c => simp only [conclude_raise, hp, and_self]

/-- A regular instruction on two states that agree on the CPU state and the latched address. -/
theorem exec_congr {i : Instr} (hk : i.decl.kind = .regular) {s s' : State} (hc : s'.cpu = s.cpu) (hp : s'.lat.pc0 = s.lat.pc0) :
    ∃ t u, exec i s = .next t ∧ exec i s' = .next u ∧ u.cpu = t.cpu ∧ u.outcome = t.outcome := by
  refine ⟨_, _, exec_eq_refHandler i s hk, exec_eq_refHandler i s' hk, ?_⟩
  rw [hc, hp]
  exact conclude_congr hp ..

theorem Fetched.restDecode_eq {s u : State} {w : Opcode} {n : Nat} (hs : Starts s)
    (hf : fetchStage refCollaborators (started s) = .next u) (hu : Fetched s u w n) : step s = restDecode refCollaborators u := by
  rw [step_eq_pass, pass_of_starts _ hs, restFetch, hf, continueAt_same .decode _ _ hu.phase]

theorem pc0_of_fetched {s u : State} {w : Opcode} {n : Nat} (h : Fetched s u w n) : u.lat.pc0 = s.cpu.pc := h.tables.pc0

/-- From a good state the step is the meaning of the instruction that the fetched opcode decodes to. -/
theorem step_of_decodeWord {s u : State} {i : Instr} {w : Opcode} {n : Nat} (hinv : s.Inv) (hs : Starts s)
    (hf : fetchStage refCollaborators (started s) = .next u) (hu : Fetched s u w n) (hi : decodeWord s.cpu.xlen w = some i) :
    ∃ t v, exec i { s with lat := u.lat, calls := u.calls } = .next t ∧ step s = .next v ∧ v.cpu = t.cpu ∧
      v.outcome = t.outcome := by
  obtain ⟨hb, -, -⟩ := (inv_iff s).mp hinv
  obtain ⟨d, hw, hid⟩ := decodeWord_eq_some hi
  obtain rfl := decl_of_ofDecl hid
  obtain ⟨hmem, -⟩ := mem_of_winner hw
  have hdec : decideTree (treeOf s s.cpu.xlen) w = resultOf i.decl := by
    rw [decideTree_built hb, decideSpec, hw]
  cases hk : i.decl.kind with
  | regular =>
    have hm := (refDecls_facts hmem).2.2 hk
    rw [resultOf, hk] at hdec
    rw [step_of_fetched hs hf hu hdec hm (hb.bind ▸ bindOf_refBind hm) hid]
    exact exec_congr hk hu.cpu rfl
  | nop =>
    rw [resultOf, hk] at hdec
    have hstep : step s = .next (retire (advance i.decl.width (setRes (.nop i.decl) u))) := by
      rw [hu.restDecode_eq hs hf, restDecode, decodeStage_nop _ (hu.decideTree_eq.trans hdec),
        continueAt_other .extract _ _ (show Phase.idle ≠ .extract by decide)]
    refine ⟨_, _, exec_of_nop hk _, hstep, ?_, rfl⟩
    simp only [retire, advance, setPc, setRes, hu.cpu]
  | illegal =>
    rw [resultOf, hk] at hdec
    have hstep : step s = .next (trapWith deliver .illegalInstruction (u.lat.opcode.setWidth 64) (setRes .illegal u)) := by
      rw [hu.restDecode_eq hs hf, restDecode, decodeStage_illegal _ (hu.decideTree_eq.trans hdec), continueAt_raiseTrap (by decide)]
      exact raiseTrap_returns deliver ..
    refine ⟨_, _, exec_of_illegal hk _, hstep, ?_, rfl⟩
    simp only [takeTrap, trapWith, setRes, hu.cpu]

/-! ## The fetched word -/

theorem width_of_decodeWord {x : Xlen} {w : Opcode} {i : Instr} (h : decodeWord x w = some i) :
    i.decl.width = if w.toNat % 4 = 3 then 4 else 2 := by
  obtain ⟨d, hw, hid⟩ := decodeWord_eq_some h
  obtain rfl := decl_of_ofDecl hid
  obtain ⟨hmem, hmatch⟩ := mem_of_winner hw
  have hwf := (refDecls_facts hmem).1
  have hfour := width_eq_four_iff hwf hmatch
  split
  case isTrue h3 => exact hfour.mpr h3
  case isFalse h3 => exact (width_of_wf hwf).resolve_right (mt hfour.mp h3)

/-- Settles O53: the fetch of mapped bytes completes, with the word that the bytes decode by. -/
theorem stepRunsWhatTheBytesDecodeTo : Obligations.StepRunsWhatTheBytesDecodeTo := by
  unfold Obligations.StepRunsWhatTheBytesDecodeTo
  intro s i rest hinv hbp hmapped b hdecode
  obtain ⟨-, hidle, hcpu⟩ := (inv_iff s).mp hinv
  have hs : Starts s := ⟨hidle, hcpu.even, hbp⟩
  have hb0 : b 0 = byteAt s.cpu s.cpu.pc := congrArg (byteAt s.cpu) (BitVec.add_zero _)
  have hb1 : b 1 = byteAt s.cpu (s.cpu.pc + 1) := rfl
  have hb2 : b 2 = byteAt s.cpu (s.cpu.pc + 2) := rfl
  have hb3 : b 3 = byteAt s.cpu (s.cpu.pc + 2 + 1) := congrArg (byteAt s.cpu) (BitVec.add_assoc s.cpu.pc 2 1).symm
  have hpage : tagOf s.cpu.unmapped (pageOf s.cpu.pc) = none := by
    have h := hmapped 0 (by decide)
    rwa [show s.cpu.pc + BitVec.ofNat 64 0 = s.cpu.pc from BitVec.add_zero _] at h
  obtain ⟨hlong, hshort⟩ := fetchStage_mapped hcpu.even hpage (hmapped 2 (by decide))
  rw [← hb0, ← hb1, ← hb2, ← hb3] at hlong
  rw [← hb0, ← hb1] at hshort
  have hword := decodeWord_of_decode hdecode
  have hwidth := width_of_decodeWord hword
  cases hl : isLong (halfOf (b 0) (b 1)) with
  | true =>
    have hlo := (isLong_iff _).mp hl
    obtain ⟨u, hf, hu⟩ := hlong hl
    rw [if_pos hl] at hword hwidth
    rw [toNat_longOpcode, if_pos (by omega)] at hwidth
    obtain ⟨t, v, ht, hv, hsame⟩ := step_of_decodeWord hinv hs hf hu hword
    refine ⟨u.lat, u.calls, t, v, pc0_of_fetched hu, hu.ilen.trans hwidth.symm, ?_, ht, hv, hsame⟩
    rw [hwidth, if_neg (by decide), hu.opcode, toNat_longOpcode, toNat_halfOf, toNat_halfOf]
    omega
  | false =>
    have hlo := mt (isLong_iff _).mpr (Bool.eq_false_iff.mp hl)
    obtain ⟨u, hf, hu⟩ := hshort hl
    rw [if_neg (Bool.eq_false_iff.mp hl)] at hword hwidth
    rw [toNat_shortOpcode, if_neg hlo] at hwidth
    obtain ⟨t, v, ht, hv, hsame⟩ := step_of_decodeWord hinv hs hf hu hword
    refine ⟨u.lat, u.calls, t, v, pc0_of_fetched hu, hu.ilen.trans hwidth.symm, ?_, ht, hv, hsame⟩
    rw [hwidth, if_pos rfl, hu.opcode, toNat_shortOpcode, toNat_halfOf]

end Sys2Proof.Machine
end

section
/-! PROOFS. Decoding an encoded instruction gives it back (43_application.md R134; 40_declaration_model.md R86). -/

namespace Sys2Proof

/-! ## Operands are in the range of their fields -/

theorem valuesInRange_iff (d : Declaration) (vs : List Word) :
    valuesInRange d vs = true ↔ List.Forall₂ (fun f v => fieldInRange f v = true) d.fields vs := by
  simp only [valuesInRange, Bool.and_eq_true, beq_iff_eq, List.all_eq_true, List.forall₂_iff_zip, Prod.forall]
  exact and_congr_left' eq_comm

/-- The field has `n` bits, of which all but the low `k` lie in a segment. -/
def ArgField.fits (f : ArgField) (signed : Bool) (n k : Nat) : Bool :=
  f.signed == signed && f.nbits == n && decide (n ≤ 64) && (~~~f.dstMask).setWidth n == BitVec.ofNat n (2 ^ k - 1)

section
variable {f : ArgField} {n k : Nat} (v : BitVec n)

theorem ArgField.fits_iff {s : Bool} : f.fits s n k = true ↔
    f.signed = s ∧ f.nbits = n ∧ n ≤ 64 ∧ (~~~f.dstMask).setWidth n = BitVec.ofNat n (2 ^ k - 1) := by
  simp only [ArgField.fits, Bool.and_eq_true, beq_iff_eq, decide_eq_true_eq, and_assoc]

/-- An operand has zeros where its field has no segment. -/
theorem uncovered_eq_zero (hf : (~~~f.dstMask).setWidth n = BitVec.ofNat n (2 ^ k - 1)) (hz : Instr.lowZero k v = true) {u : Word}
    (hu : u.setWidth n = v) : (u &&& ~~~f.dstMask).setWidth n = 0#n := by
  rw [BitVec.setWidth_and, hu, hf, and_eq_zero_iff]
  intro j hj
  have hjk : ¬ j < k := by
    intro hlt
    have h := congrArg (Nat.testBit · j) (beq_iff_eq.mp hz)
    simp only [Nat.testBit_mod_two_pow, hlt, decide_true, Bool.true_and, Nat.zero_testBit] at h
    rw [BitVec.getLsbD, h] at hj
    cases hj
  rw [BitVec.getLsbD_ofNat, Nat.testBit_two_pow_sub_one, decide_eq_false hjk, Bool.and_false]

theorem fieldInRange_uval_of_lowZero (hz : Instr.lowZero k v = true) (hf : f.fits false n k = true := by decide) :
    fieldInRange f (Instr.uval v) = true := by
  obtain ⟨hs, rfl, hn, hmask⟩ := ArgField.fits_iff.mp hf
  have hback : (Instr.uval v).setWidth f.nbits = v := by rw [Machine.arg_uval hn, BitVec.setWidth_eq]
  simp only [fieldInRange, hs, hback, uncovered_eq_zero v hmask hz hback, beq_self_eq_true, Bool.and_true]
  exact beq_self_eq_true (Instr.uval v)

theorem fieldInRange_sval_of_lowZero (hz : Instr.lowZero k v = true) (hf : f.fits true n k = true := by decide) :
    fieldInRange f (Instr.sval v) = true := by
  obtain ⟨hs, rfl, hn, hmask⟩ := ArgField.fits_iff.mp hf
  have hback : (Instr.sval v).setWidth f.nbits = v := Machine.arg_sval hn v
  simp only [fieldInRange, hs, signExtendFrom, hback, uncovered_eq_zero v hmask hz hback, beq_self_eq_true, Bool.and_true]
  exact beq_self_eq_true (Instr.sval v)

theorem lowZero_zero : Instr.lowZero 0 v = true := by simp [Instr.lowZero, Nat.mod_one]

theorem fieldInRange_uval (hf : f.fits false n 0 = true := by decide) : fieldInRange f (Instr.uval v) = true :=
  fieldInRange_uval_of_lowZero v (lowZero_zero v) hf

theorem fieldInRange_sval (hf : f.fits true n 0 = true := by decide) : fieldInRange f (Instr.sval v) = true :=
  fieldInRange_sval_of_lowZero v (lowZero_zero v) hf

end

/-- The operands of a well-formed instruction are in range, by the shape of its fields. -/
theorem args_inRange {x : Xlen} {i : Instr} (h : i.wf x = true) :
    List.Forall₂ (fun f v => fieldInRange f v = true) i.decl.fields i.args := by
  cases i
  all_goals simp only [Instr.wf, Bool.and_eq_true, bne_iff_ne] at h
  case fence | ecall | ebreak | fenceI | sret | mret | wfi | cEbreak | illegalCAddi4spnZ | cNop | illegalCAddiwRd0
      | illegalCAddi16spZ | illegalCLuiZ | illegalCLwspRd0 | illegalCLdspRd0 | illegalCJrRs1z =>
    exact .nil
  case lui rd imm | auipc rd imm | jal rd imm =>
    exact .cons (fieldInRange_uval rd) (.cons (fieldInRange_sval_of_lowZero imm h) .nil)
  case beq a b imm | bne a b imm | blt a b imm | bge a b imm | bltu a b imm | bgeu a b imm =>
    exact .cons (fieldInRange_uval a) (.cons (fieldInRange_uval b) (.cons (fieldInRange_sval_of_lowZero imm h) .nil))
  case jalr a b imm | lb a b imm | lh a b imm | lw a b imm | lbu a b imm | lhu a b imm | lwu a b imm | ld a b imm | sb a b imm
      | sh a b imm | sw a b imm | sd a b imm | addi a b imm | slti a b imm | sltiu a b imm | xori a b imm | ori a b imm
      | andi a b imm | addiw a b imm =>
    exact .cons (fieldInRange_uval a) (.cons (fieldInRange_uval b) (.cons (fieldInRange_sval imm) .nil))
  case slli32 a b c | srli32 a b c | srai32 a b c | slli64 a b c | srli64 a b c | srai64 a b c | slliw a b c | srliw a b c
      | sraiw a b c | csrrw a b c | csrrs a b c | csrrc a b c | csrrwi a b c | csrrsi a b c | csrrci a b c =>
    exact .cons (fieldInRange_uval a) (.cons (fieldInRange_uval b) (.cons (fieldInRange_uval c) .nil))
  case add a b c | sub a b c | sll a b c | slt a b c | sltu a b c | xor a b c | srl a b c | sra a b c | or a b c | and a b c
      | addw a b c | subw a b c | sllw a b c | srlw a b c | sraw a b c | mul a b c | mulh a b c | mulhsu a b c | mulhu a b c
      | div a b c | divu a b c | rem a b c | remu a b c | mulw a b c | divw a b c | divuw a b c | remw a b c | remuw a b c =>
    exact .cons (fieldInRange_uval a) (.cons (fieldInRange_uval b) (.cons (fieldInRange_uval c) .nil))
  case sfenceVma a b | cSrli32 a b | cSrai32 a b | cSrli64 a b | cSrai64 a b | cSlli32 a b | cSlli64 a b | cSub a b | cXor a b
      | cOr a b | cAnd a b | cSubw a b | cAddw a b | cMv a b | cAdd a b =>
    exact .cons (fieldInRange_uval a) (.cons (fieldInRange_uval b) .nil)
  case cJr a | cJalr a => exact .cons (fieldInRange_uval a) .nil
  case cAddi a imm | cAddiw a imm | cLi a imm | cAndi a imm =>
    exact .cons (fieldInRange_uval a) (.cons (fieldInRange_sval imm) .nil)
  case cAddi4spn a u => exact .cons (fieldInRange_uval a) (.cons (fieldInRange_uval_of_lowZero u h.1) .nil)
  case cLw a b u | cSw a b u =>
    exact .cons (fieldInRange_uval a) (.cons (fieldInRange_uval b) (.cons (fieldInRange_uval_of_lowZero u h) .nil))
  case cLd a b u | cSd a b u =>
    exact .cons (fieldInRange_uval a) (.cons (fieldInRange_uval b) (.cons (fieldInRange_uval_of_lowZero u h.2) .nil))
  case cJal imm => exact .cons (fieldInRange_sval_of_lowZero imm h.2) .nil
  case cJ imm => exact .cons (fieldInRange_sval_of_lowZero imm h) .nil
  case cAddi16sp imm => exact .cons (fieldInRange_sval_of_lowZero imm h.1) .nil
  case cLui a imm => exact .cons (fieldInRange_uval a) (.cons (fieldInRange_sval_of_lowZero imm h.1.2) .nil)
  case cBeqz a imm | cBnez a imm => exact .cons (fieldInRange_uval a) (.cons (fieldInRange_sval_of_lowZero imm h) .nil)
  case cLwsp a u | cLdsp a u => exact .cons (fieldInRange_uval a) (.cons (fieldInRange_uval_of_lowZero u h.2) .nil)
  case cSwsp a u => exact .cons (fieldInRange_uval a) (.cons (fieldInRange_uval_of_lowZero u h) .nil)
  case cSdsp a u => exact .cons (fieldInRange_uval a) (.cons (fieldInRange_uval_of_lowZero u h.2) .nil)

theorem valuesInRange_args {x : Xlen} {i : Instr} (h : i.wf x = true) : valuesInRange i.decl i.args = true :=
  (valuesInRange_iff _ _).mpr (args_inRange h)

/-! ## The row of an instruction -/

theorem decl_mem (i : Instr) : i.decl ∈ refDecls := by
  cases i
  all_goals
    dsimp only [Instr.decl]
    decide +kernel

theorem decl_wf (i : Instr) : i.decl.wf = true := (Machine.refDecls_facts (decl_mem i)).1

theorem decl_inTree {x : Xlen} {i : Instr} (h : i.wf x = true) : i.decl.inTree x = true := by
  cases i
  case slli32 | srli32 | srai32 | cJal | cSrli32 | cSrai32 | cSlli32 =>
    cases x
    · rfl
    · cases h
  case slli64 | srli64 | srai64 | lwu | ld | sd | addiw | slliw | srliw | sraiw | addw | subw | sllw | srlw | sraw | mulw | divw
      | divuw | remw | remuw | cLd | cSd | illegalCAddiwRd0 | cAddiw | cSrli64 | cSrai64 | cSubw | cAddw | cSlli64
      | illegalCLdspRd0 | cLdsp | cSdsp =>
    cases x
    · cases h
    · rfl
  all_goals rfl

/-- The word of an instruction matches its row, which gives the operands back. -/
theorem isMatch_encode (i : Instr) : i.decl.isMatch (encode i) = true := isMatch_encodeWith (decl_wf i)

theorem apply_encode {x : Xlen} {i : Instr} (h : i.wf x = true) : apply i.decl (encode i) = i.args :=
  apply_encodeWith (decl_wf i) (valuesInRange_args h)

/-! ## No more specific row wins the word -/

/-- The operand values that the overlaps of the reference set keep out of a row: the operand's place and the value
(48_reference_rv_compressed.md R495). -/
def excluded : Mnemonic → List (Nat × Word)
  | .cAddi4spn => [(1, 0)]
  | .cLui => [(0, 2), (1, 0)]
  | .cMv | .cAdd => [(1, 0)]
  | .cAddi | .cAddiw | .cAddi16sp | .cLwsp | .cLdsp | .cJr | .cJalr => [(0, 0)]
  | _ => []

/-- Every word that the field's row and `e` both match has the value `v` in the field. -/
def ArgField.forcedBy (f : ArgField) (e : Declaration) (v : Word) : Bool :=
  f.srcMask &&& ~~~e.mask == 0 && extract f e.pattern == v

/-- Why `e` does not win a word of `d`. -/
def losesTo (e d : Declaration) : Bool :=
  !d.overlaps e || e == d || decide (e.fixedBits < d.fixedBits) || (d.fields.isEmpty && !e.isMatch d.pattern) ||
    (excluded d.mnemonic).any fun p => d.fields[p.1]?.any fun f => f.forcedBy e p.2

theorem refDecls_loseTo (x : Xlen) :
    (variantDecls x refDecls).all (fun d => (variantDecls x refDecls).all fun e => losesTo e d) = true := by
  cases x
  · decide +kernel
  · decide +kernel

/-- Two rows that match one word overlap (R82). -/
theorem overlaps_of_isMatch {d e : Declaration} {w : Opcode} (hd : d.isMatch w = true) (he : e.isMatch w = true) :
    d.overlaps e = true := by
  rw [Declaration.overlaps, beq_iff_eq, ← beq_iff_eq.mp hd, ← beq_iff_eq.mp he]
  apply BitVec.eq_of_getLsbD_eq
  intro i _
  simp only [BitVec.getLsbD_and, BitVec.getLsbD_xor, BitVec.ofNat_eq_ofNat, BitVec.getLsbD_zero]
  cases w.getLsbD i
  · simp
  · cases d.mask.getLsbD i <;> simp

/-- The value of a field depends on its source bits alone. -/
theorem extract_congr {f : ArgField} (h : f.Wf) {v w : Opcode}
    (hvw : ∀ i, f.srcMask.getLsbD i = true → v.getLsbD i = w.getLsbD i) : extract f v = extract f w := by
  have hg : gather f.segs v = gather f.segs w := by
    apply BitVec.eq_of_getLsbD_eq
    intro j _
    rw [Bool.eq_iff_iff, getLsbD_gather_iff h, getLsbD_gather_iff h]
    refine exists_congr fun g => and_congr_right fun hg => and_congr_right fun hj => ?_
    obtain ⟨hle, -, -⟩ := (Seg.wf_iff g).mp (h.segs g hg)
    obtain ⟨hlo, hhi⟩ := hj
    rw [hvw _ ((getLsbD_fieldSrcMask h _).mpr ⟨g, hg, by omega, by omega⟩)]
  simp only [extract, hg]

theorem extract_of_forcedBy {f : ArgField} (h : f.Wf) {e : Declaration} (he : e.wf = true) {v : Word} (hv : f.forcedBy e v = true)
    {w : Opcode} (hw : e.isMatch w = true) : extract f w = v := by
  simp only [ArgField.forcedBy, Bool.and_eq_true, beq_iff_eq] at hv
  obtain ⟨hmask, rfl⟩ := hv
  refine extract_congr h fun i hi => (Machine.isMatch_iff (Machine.patternOk_of_wf he) w).mp hw i ?_
  have hm := (and_eq_zero_iff _ _).mp hmask i hi
  have hlt := BitVec.lt_of_getLsbD hi
  simpa only [BitVec.getLsbD_not, hlt, decide_true, Bool.true_and, Bool.not_eq_false'] using hm

/-! ## What a well-formed instruction keeps out -/

theorem some_uval_ne {n : Nat} {u v : BitVec n} (h : u ≠ v) (hn : n ≤ 64 := by decide) :
    some (Instr.uval u) ≠ some (Instr.uval v) := by
  intro heq
  have heq := congrArg (BitVec.setWidth n) (Option.some.inj heq)
  rw [Machine.arg_uval hn, Machine.arg_uval hn, BitVec.setWidth_eq, BitVec.setWidth_eq] at heq
  exact h heq

theorem some_sval_ne {n : Nat} {u v : BitVec n} (h : u ≠ v) (hn : n ≤ 64 := by decide) :
    some (Instr.sval u) ≠ some (Instr.sval v) := by
  intro heq
  have heq := congrArg (BitVec.setWidth n) (Option.some.inj heq)
  rw [Machine.arg_sval hn, Machine.arg_sval hn] at heq
  exact h heq

/-- A well-formed instruction has none of the operand values that belong to a more specific row. -/
theorem args_ne_of_excluded {x : Xlen} {i : Instr} (h : i.wf x = true) {k : Nat} {v : Word}
    (hk : (k, v) ∈ excluded i.decl.mnemonic) : i.args[k]? ≠ some v := by
  suffices hall : ∀ p ∈ excluded i.decl.mnemonic, i.args[p.1]? ≠ some p.2 from hall _ hk
  clear hk
  cases i
  all_goals simp only [Instr.wf, Bool.and_eq_true, bne_iff_ne] at h
  case cAddi a u | cJr a | cJalr a | cMv a b | cAdd a b => exact List.forall_mem_singleton.mpr (some_uval_ne h)
  case cAddi4spn a u | cAddiw a u =>
    obtain ⟨-, hne⟩ := h
    exact List.forall_mem_singleton.mpr (some_uval_ne hne)
  case cLwsp a u =>
    obtain ⟨hne, -⟩ := h
    exact List.forall_mem_singleton.mpr (some_uval_ne hne)
  case cLdsp a u =>
    obtain ⟨⟨-, hne⟩, -⟩ := h
    exact List.forall_mem_singleton.mpr (some_uval_ne hne)
  case cAddi16sp u =>
    obtain ⟨-, hne⟩ := h
    exact List.forall_mem_singleton.mpr (some_sval_ne hne)
  case cLui a u =>
    obtain ⟨⟨hrd, -⟩, himm⟩ := h
    exact List.forall_mem_cons.mpr ⟨some_uval_ne hrd, List.forall_mem_singleton.mpr (some_sval_ne himm)⟩
  all_goals exact List.forall_mem_nil _

theorem encode_of_fields_nil {i : Instr} (h : i.decl.fields = []) : encode i = i.decl.pattern := by
  rw [encode, encodeWith, h]
  rfl

/-- The row of a well-formed instruction wins its word (R86). -/
theorem winner_encode {x : Xlen} {i : Instr} (h : i.wf x = true) : winner (variantDecls x refDecls) (encode i) = some i.decl := by
  have hd : i.decl ∈ variantDecls x refDecls := List.mem_filter.mpr ⟨decl_mem i, decl_inTree h⟩
  refine mostSpecific_of_lt (List.mem_filter.mpr ⟨hd, isMatch_encode i⟩) fun e he hne => ?_
  obtain ⟨hex, hmatch⟩ := List.mem_filter.mp he
  have hewf := (Machine.refDecls_facts (List.mem_filter.mp hex).1).1
  have hloses := List.all_eq_true.mp (List.all_eq_true.mp (refDecls_loseTo x) _ hd) e hex
  simp only [losesTo, Bool.or_eq_true, Bool.and_eq_true, Bool.not_eq_true', beq_iff_eq, decide_eq_true_eq, List.any_eq_true,
    Option.any_eq_true, List.isEmpty_iff] at hloses
  obtain (((hover | heq) | hlt) | ⟨hnil, hno⟩) | ⟨⟨k, v⟩, hk, f, hf, hforced⟩ := hloses
  · exact absurd ((overlaps_of_isMatch (isMatch_encode i) hmatch).symm.trans hover) (by decide)
  · exact absurd heq hne
  · exact hlt
  · rw [encode_of_fields_nil hnil, hno] at hmatch
    cases hmatch
  · have hval := extract_of_forcedBy (ArgField.wf_of_mem (decl_wf i) (List.mem_of_getElem? hf)) hewf hforced hmatch
    refine absurd ?_ (args_ne_of_excluded h hk)
    rw [← apply_encode h, apply, List.getElem?_map, hf, Option.map_some, hval]

/-! ## Words and bytes -/

theorem decodeWord_encode {x : Xlen} {i : Instr} (h : i.wf x = true) : decodeWord x (encode i) = some i := by
  simp only [decodeWord, winner_encode h]
  rw [Instr.ofDecl, if_pos (Machine.refDecls_facts (decl_mem i)).2.1, apply_encode h, Machine.ofApplication_args]

theorem decodeOpcode_encode {x : Xlen} {i : Instr} (h : i.wf x = true) : decodeOpcode x (encode i) = .ok i := by
  simp only [decodeOpcode, decodeWord_encode h]

/-- The first half-word of an opcode word, from its bytes. -/
theorem halfOf_low (w : Opcode) : halfOf (w.setWidth 8) ((w >>> 8).setWidth 8) = w.setWidth 16 := by
  apply BitVec.eq_of_toNat_eq
  simp only [Machine.toNat_halfOf, BitVec.toNat_setWidth, BitVec.toNat_ushiftRight, Nat.shiftRight_eq_div_pow]
  omega

theorem longOpcode_bytes (w : Opcode) :
    longOpcode (w.setWidth 16) (halfOf ((w >>> 16).setWidth 8) ((w >>> 24).setWidth 8)) = w := by
  have hw := w.isLt
  apply BitVec.eq_of_toNat_eq
  simp only [Machine.toNat_longOpcode, Machine.toNat_halfOf, BitVec.toNat_setWidth, BitVec.toNat_ushiftRight,
    Nat.shiftRight_eq_div_pow]
  omega

theorem isLong_low (w : Opcode) : isLong (w.setWidth 16) = true ↔ w.toNat % 4 = 3 := by
  rw [Machine.isLong_iff, BitVec.toNat_setWidth]
  omega

/-- A 2-byte row fixes and reads the low half-word alone (R83). -/
theorem encodeWith_low {d : Declaration} (hd : d.wf = true) (h2 : d.width = 2) (vs : List Word) :
    (encodeWith d vs).toNat < 2 ^ 16 := by
  obtain ⟨hmask, hsrc⟩ : d.mask &&& 0xFFFF0000 = 0#32 ∧ ∀ f ∈ d.fields, f.srcMask &&& 0xFFFF0000 = 0#32 := by
    have h := hd
    simp only [Declaration.wf, Bool.and_eq_true] at h
    obtain ⟨⟨⟨⟨⟨-, h⟩, -⟩, -⟩, -⟩, -⟩ := h
    simpa [Declaration.upperHalfOk, h2] using h
  have hupper (m : Opcode) (hm : m &&& 0xFFFF0000 = 0#32) {i : Nat} (hi : m.getLsbD i = true) : i < 16 := by
    have h := (and_eq_zero_iff _ _).mp hm i hi
    have hlt := BitVec.lt_of_getLsbD hi
    by_contra hge
    rw [show (0xFFFF0000 : Opcode) = bitRange 31 16 from rfl, ← Bool.not_eq_true, getLsbD_bitRange (by decide)] at h
    omega
  refine Nat.lt_pow_two_of_testBit _ fun i hi => ?_
  rw [← Bool.not_eq_true]
  intro hbit
  obtain hp | ⟨p, hp, g, hg, hsrcAt, -⟩ := (getLsbD_encodeWith hd i).mp hbit
  · exact absurd (hupper _ hmask (Machine.mask_of_pattern (Machine.patternOk_of_wf hd) hp)) (by omega)
  · have hwf := wf_of_mem_zip hd hp
    have hbit := (getLsbD_fieldSrcMask hwf i).mpr ⟨g, hg, hsrcAt⟩
    exact absurd (hupper _ (hsrc _ (List.of_mem_zip hp).1) hbit) (by omega)

theorem shortOpcode_low {w : Opcode} (h : w.toNat < 2 ^ 16) : shortOpcode (w.setWidth 16) = w := by
  apply BitVec.eq_of_toNat_eq
  rw [Machine.toNat_shortOpcode, BitVec.toNat_setWidth, Nat.mod_eq_of_lt h]

/-- The bytes of a word decode as the word, by its width. -/
theorem decode_encodeBytes {x : Xlen} {i : Instr} (h : i.wf x = true) (rest : List Byte) :
    decode x (encodeBytes i ++ rest) = .ok (i, rest) := by
  have hlong := Machine.width_eq_four_iff (decl_wf i) (isMatch_encode i)
  rw [← isLong_low] at hlong
  by_cases h4 : i.decl.width = 4
  · simp only [encodeBytes, if_pos h4, List.cons_append, List.nil_append, decode, halfOf_low, if_pos (hlong.mp h4),
      longOpcode_bytes, decodeOpcode_encode h]
    rfl
  · have h2 := (Machine.width_of_wf (decl_wf i)).resolve_right h4
    have hshort : shortOpcode ((encode i).setWidth 16) = encode i := shortOpcode_low (encodeWith_low (decl_wf i) h2 i.args)
    simp only [encodeBytes, if_neg h4, List.cons_append, List.nil_append, decode, halfOf_low, if_neg (mt hlong.mpr h4),
      hshort, decodeOpcode_encode h]
    rfl

/-- Settles O7: the operands are in range, the row wins its word, and the length bits tell the bytes apart. -/
theorem decodeRecoversEveryWellFormedInstruction : Obligations.DecodeRecoversEveryWellFormedInstruction := by
  unfold Obligations.DecodeRecoversEveryWellFormedInstruction
  intro x i rest h
  exact ⟨if_pos (valuesInRange_args h), decodeWord_encode h, decode_encodeBytes h rest⟩

/-- Settles O8: the decoder reads each of the words. -/
theorem writtenOutWordsDecode : Obligations.WrittenOutWordsDecode := by
  unfold Obligations.WrittenOutWordsDecode
  decide +kernel

end Sys2Proof
end
